-- ==== Sys2Proof/Word.lean ====
section
/-! DEFINITION. Word.lean: the basic types of the TC460 model: text on a UART line, numbers of references, slots and chains, signal levels, and the tick constants.
The rules cited in this package are the numbered rules R1 to R196 of spec/. -/

namespace Sys2Proof

/-- Characters on a UART line, in the order in which they are sent (R195: ASCII codes). -/
abbrev Text := List Char

/-- Reference number r of 1..3 is index r - 1. -/
abbrev RefNo := Fin 3

/-- Announcement slot number k of 1..8 is index k - 1. -/
abbrev SlotNo := Fin 8

/-- The word on the ten data lines of an amplitude output (R194). -/
abbrev AmpWord := BitVec 10

/-- The nominal second in ticks (00, Terms). -/
abbrev nominalSecond : Nat := 10000000

/-- One of the two transmitter chains. -/
inductive Chain where
  | one
  | two
deriving DecidableEq, Repr

/-- A signal level (R196 gives what each line's level means). -/
inductive Level where
  | low
  | high
deriving DecidableEq, Repr

/-- A direction of transition of a signal line. -/
inductive Edge where
  | rising
  | falling
deriving DecidableEq, Repr

/-- One value of each of the two chains. -/
structure PerChain (α : Type) where
  one : α
  two : α
deriving DecidableEq, Repr

/-- The value of one chain. -/
def PerChain.get {α : Type} (p : PerChain α) : Chain → α
  | .one => p.one
  | .two => p.two

/-- The pair with one chain's value replaced. -/
def PerChain.set {α : Type} (p : PerChain α) (c : Chain) (a : α) : PerChain α :=
  match c with
  | .one => { p with one := a }
  | .two => { p with two := a }

/-- The other chain. -/
def Chain.other : Chain → Chain
  | .one => .two
  | .two => .one

end Sys2Proof
end

