-- ==== Sys2Proof/Syntax.lean ====
section
/-! DEFINITION. Syntax.lean: the commands and events of the part, one constructor for each row of spec/opcode_table.json, and the nineteen command words. -/

namespace Sys2Proof

/-- A character as a UART receiver takes it: its code, and whether its stop bit was sampled low (R195). -/
structure RxChar where
  code : Char
  framingError : Bool
deriving DecidableEq, Repr

/-- The nineteen command words of the control line (9.2). -/
inductive Command where
  | stat | sett | refc | refs | selc | disc | zonc | annw | annr | annc
  | keyc | outc | monc | monr | recr | mntc | note | nmsk | rset
deriving DecidableEq, Repr

/-- One event or command. The table gives no operand bits: the operands are what the row's rule says the event carries.
A control command carries its fields as the text that stood between the commas (R173); field 1 is the head, an empty text is an absent field. -/
inductive Instr where
  /-- R178: STAT, field 1 the part. -/
  | stat (fields : List Text)
  /-- R32: SETT, fields date, time. -/
  | sett (fields : List Text)
  /-- R40: REFC, fields reference, enable, polarity, delay, mask, loss mode, priority. -/
  | refc (fields : List Text)
  /-- R58: REFS, field reference. -/
  | refs (fields : List Text)
  /-- R63: SELC, fields mode, reference. -/
  | selc (fields : List Text)
  /-- R84: DISC, fields J, W, B, S, H1, H2, expiry action. -/
  | disc (fields : List Text)
  /-- R28: ZONC, fields standard offset, summer offset, zone state. -/
  | zonc (fields : List Text)
  /-- R89: ANNW, fields slot, kind and the kind's three fields. -/
  | annw (fields : List Text)
  /-- R95: ANNR, field slot. -/
  | annr (fields : List Text)
  /-- R94: ANNC, field slot. -/
  | annc (fields : List Text)
  /-- R142: KEYC, fields D, s, shape. -/
  | keyc (fields : List Text)
  /-- R165: OUTC, fields standby mode, chain, auto-arm state, threshold. -/
  | outc (fields : List Text)
  /-- R153: MONC, fields enable, tolerance, delay. -/
  | monc (fields : List Text)
  /-- R160: MONR, field part. -/
  | monr (fields : List Text)
  /-- R127: RECR, fields store, part. -/
  | recr (fields : List Text)
  /-- R150: MNTC, field mode. -/
  | mntc (fields : List Text)
  /-- R184: NOTE, no field. -/
  | note (fields : List Text)
  /-- R186: NMSK, fields NONE or kind numbers. -/
  | nmsk (fields : List Text)
  /-- R189: RSET, no field. -/
  | rset (fields : List Text)
  /-- R189: the end of the RSET reply; the operands are the levels of the baud-select pins BS1 and BS0 at that instant (R176). -/
  | rsetResetTaken (bs1 bs0 : Level)
  /-- R172: a record completes; the operands are its characters from ':' onward without the carriage return, and the two marks. -/
  | recordNotTaken (chars : Text) (overlong badChar : Bool)
  /-- R175: a record completes; the operand is its characters from ':' onward without the carriage return. -/
  | overrun (chars : Text)
  /-- R171: the control port receives ':'. -/
  | restart
  /-- R175: the last stop bit of a reply ends. -/
  | replySent
  /-- R187: the reset input is asserted. -/
  | resetAsserted
  /-- R187, R188: the reset input is released; the operands are the levels of BS1 and BS0 then (R176). -/
  | resetReleased (bs1 bs0 : Level)
  /-- R64: the running second ends. -/
  | localEpoch
  /-- R22: the local epoch at which the label would pass its range. -/
  | timeEnd
  /-- R78: the local epoch at which the holdover elapsed count first reaches H1. -/
  | holdoverLimitH1
  /-- R79: the local epoch at which the holdover elapsed count reaches H2. -/
  | holdoverExpiry
  /-- R41: a transition of a reference's edge line. -/
  | referenceEdge (r : RefNo) (edge : Edge)
  /-- R44, R45: a reference's word assembly ends: the fifteen characters of a completed word, or absent for a failed word. -/
  | wordCompletion (r : RefNo) (word : Option Text)
  /-- R154: a transition of the monitor input. -/
  | monitorTransition (edge : Edge)
  /-- R161: the level on a chain-ready input becomes this. -/
  | chainReady (c : Chain) (level : Level)
  /-- R144: the shaper reaches its next segment point. -/
  | envelopeSegment
  /-- R170: the control port receives a character. -/
  | controlCharacterReceived (ch : RxChar)
  /-- R44: a reference's word receiver takes a character. -/
  | wordCharacterReceived (r : RefNo) (ch : RxChar)
deriving DecidableEq, Repr

end Sys2Proof
end

