-- ==== Sys2Proof/Decode.lean ====
section
/-! DEFINITION. Decode.lean: the words of the table. spec/opcode_table.json gives no row any bits, so no word spells a command (log 29). -/

namespace Sys2Proof

/-- No row of the table gives bits. -/
def decodeTableWord (_nbits _w : Nat) : Option Instr := none

end Sys2Proof
end

