-- ==== Sys2Proof/Config.lean ====
section
/-! DEFINITION. Config.lean: what the spec leaves open and no command decides. -/

namespace Sys2Proof

/-- Free value (log 3, 4, 5, 14): where the spec says that either of two coinciding actions may be taken first, the order is read from this number.
It has no body, so nothing can be proved of its value; the argument is the count State.freeCount, so that every use is fresh. -/
opaque Config.freeChoice : Nat → Nat

end Sys2Proof
end

