-- ==== Sys2Proof/Machine/State.lean ====
section
/-! DEFINITION. Machine/State.lean: the state of the part as plain data, block by block, the notice data, the reasons a step could stop, and the state right after reset.
An item that the spec holds twice in two forms is stored once and the other form is computed (log 11). -/

namespace Sys2Proof.Machine

/-! ### Station time scale (02) -/

/-- A calendar date (R23, R24). -/
structure Date where
  year : Nat
  month : Nat
  day : Nat
deriving DecidableEq, Repr

/-- The name of a local second: a UTC minute number and a second of that minute (02, The label). -/
structure Label where
  minute : Nat
  second : Nat
deriving DecidableEq, Repr

/-- R18: the zone state. -/
inductive Zone where
  | standard
  | summer
deriving DecidableEq, Repr

/-- R18: who asked for a time load. -/
inductive LoadSource where
  | host
  | reference (r : RefNo)
deriving DecidableEq, Repr

/-- R18, R31: the pending load. -/
structure PendingLoad where
  source : LoadSource
  target : Label
deriving DecidableEq, Repr

/-- R18: the station time scale. The time status is SET exactly while a label is held. -/
structure TimeScale where
  label : Option Label
  pending : Option PendingLoad
  zone : Zone
  standardOffset : Int
  summerOffset : Int
deriving DecidableEq, Repr

/-! ### Reference capture unit (03) -/

/-- R38: the loss mode. -/
inductive LossMode where
  | normal
  | extended
deriving DecidableEq, Repr

/-- R38: the agreement mask. -/
structure Mask where
  sec : Bool
  min : Bool
  hour : Bool
  date : Bool
deriving DecidableEq, Repr

/-- R39: the state of a reference. -/
inductive RefState where
  | off
  | lost
  | qualifying
  | good
  | rejected
deriving DecidableEq, Repr

/-- R45: the leap indicator of a word, '0', '+' or '-'. -/
inductive LeapMark where
  | nothing
  | inserted
  | deleted
deriving DecidableEq, Repr

/-- R45: a valid time word. -/
structure TimeWord where
  date : Date
  hour : Nat
  minute : Nat
  second : Nat
  leap : LeapMark
deriving DecidableEq, Repr

/-- R39: the observations of the current second; edges is 0, 1, or 2 for two or more. -/
structure SecondObs where
  edges : Nat
  offset : Option Int
  wordMissing : Bool
  disagreed : Bool
  excursion : Bool
deriving DecidableEq, Repr

/-- R42, R43: whether an edge is compared with the label of the current epoch or of the next one. -/
inductive Side where
  | current
  | next
deriving DecidableEq, Repr

/-- R47: the agreement result. -/
inductive Agreement where
  | agree
  | disagree
  | unchecked
deriving DecidableEq, Repr

/-- R49: a capture record. -/
structure Capture where
  phase : Nat
  offset : Int
  side : Side
  label : Option Label
  word : Option TimeWord
  agreement : Agreement
deriving DecidableEq, Repr

/-- R51: the causes of a FAULTY second, in the order in which they are tested. -/
inductive FaultCause where
  | excursion
  | multiple
  | noword
  | disagree
  | jitter
deriving DecidableEq, Repr

/-- R39, R51: the last review. -/
inductive Review where
  | missed
  | faulty (cause : FaultCause)
  | good
  | skipped
deriving DecidableEq, Repr

/-- R38, R39: one reference's settings and working record. The enable setting is ON exactly while the state is not OFF (R40, R56). -/
structure Reference where
  polarity : Edge
  delay : Nat
  mask : Mask
  lossMode : LossMode
  priority : Nat
  state : RefState
  goodRun : Nat
  faultCount : Nat
  missCount : Nat
  held : Option TimeWord
  assembly : Option Text
  obs : SecondObs
  jitterBase : Option Int
  last : Option Capture
  review : Option Review
  reviewPending : Bool
deriving DecidableEq, Repr

/-! ### Reference selector, epoch counter, discipline controller (04) -/

/-- R60: the selector mode; FORCE carries the forced reference. -/
inductive SelMode where
  | autoRevert
  | autoHold
  | force (r : RefNo)
deriving DecidableEq, Repr

/-- R60: the reference selector. -/
structure Selector where
  mode : SelMode
  selected : Option RefNo
deriving DecidableEq, Repr

/-- R64: the epoch counter. -/
structure EpochCounter where
  phase : Nat
  length : Nat
deriving DecidableEq, Repr

/-- R67: the discipline state. -/
inductive DiscState where
  | free
  | acquire
  | track
  | holdover
deriving DecidableEq, Repr

/-- R84: the expiry action. -/
inductive ExpiryAction where
  | bare
  | continue
deriving DecidableEq, Repr

/-- R84: the discipline settings. -/
structure DiscSettings where
  j : Nat
  w : Nat
  b : Nat
  s : Nat
  h1 : Nat
  h2 : Nat
  expiry : ExpiryAction
deriving DecidableEq, Repr

/-- R67: the discipline controller. -/
structure Discipline where
  state : DiscState
  lockRun : Nat
  excursions : Nat
  elapsed : Nat
  h1Passed : Bool
  holdoverRef : Option RefNo
  expired : Bool
  entrySecond : Bool
  firstAwaited : Bool
  stepped : Bool
  lastApplied : Option Int
  settings : DiscSettings
  staged : Option DiscSettings
deriving DecidableEq, Repr

/-! ### Announcement table (05) -/

/-- R88: the direction of a leap. -/
inductive LeapDir where
  | insert
  | delete
deriving DecidableEq, Repr

/-- R88: a slot's kind with its fields. Minutes and days are stored as numbers. -/
inductive SlotContent where
  | zone (effective : Nat) (target : Zone) (window : Nat)
  | leap (day : Nat) (dir : LeapDir) (window : Nat)
  | service (start stop code : Nat)
deriving DecidableEq, Repr

/-- R87, R88: the outcome of a DONE slot. -/
inductive SlotOutcome where
  | applied
  | passed
  | missed
  | ended
deriving DecidableEq, Repr

/-- R87: the state of a slot that is not EMPTY. -/
inductive SlotState where
  | armed
  | announcing
  | committed
  | done (outcome : SlotOutcome)
deriving DecidableEq, Repr

/-- R87: the record of a slot that is not EMPTY. -/
structure Slot where
  state : SlotState
  content : SlotContent
  carried : Bool
deriving DecidableEq, Repr

/-! ### Record composer (06) -/

/-- R4: what one second carries. -/
inductive Symbol where
  | minute
  | mark (a b : Bool)
  | none
deriving DecidableEq, Repr

/-- R8 to R13, R111: the coded fields of a record. -/
structure CodeFields where
  localMinute : Nat
  localHour : Nat
  localDay : Nat
  weekday : Nat
  localMonth : Nat
  localYear : Nat
  century : Bool
  offset : Int
  summer : Bool
  zoneChange : Bool
  leap : Bool
  leapDelete : Bool
  chainTwo : Bool
  quality : Nat
  present : Bool
  code : Nat
deriving DecidableEq, Repr

/-- R14: the six parity bits. -/
structure ParityBits where
  p1 : Bool
  p2 : Bool
  p3 : Bool
  p4 : Bool
  p5 : Bool
  p6 : Bool
deriving DecidableEq, Repr

/-- R111: a record in NEXT or AIR. The described minute D is K + 1. -/
structure Record where
  composedAt : Label
  keyed : Nat
  length : Nat
  zoneAt : Zone
  fields : CodeFields
  parity : ParityBits
  symbols : List Symbol
  stale : Bool
deriving DecidableEq, Repr

/-! ### Keyer and envelope shaper (07) -/

/-- R16: the keying mode. -/
inductive KeyMode where
  | full
  | bare
  | quiet
deriving DecidableEq, Repr

/-- R141: the envelope settings. -/
structure Envelope where
  depth : Nat
  segment : Nat
  shape : Vector Nat 8
deriving DecidableEq, Repr

/-- R1, R130: a scheduled drop. -/
structure Drop where
  start : Nat
  duration : Nat
deriving DecidableEq, Repr

/-- R130, R144: the envelope phase; segment k of 1..8 is index k - 1. -/
inductive EnvPhase where
  | idle
  | falling (k : Fin 8)
  | hold
  | rising (k : Fin 8)
deriving DecidableEq, Repr

/-- R130: the keyer and envelope shaper. dropIndex says which drop of the schedule the phase belongs to, or which comes next. -/
structure Keyer where
  air : Option Record
  mode : KeyMode
  active : Envelope
  staged : Option Envelope
  schedule : List Drop
  dropIndex : Nat
  phase : EnvPhase
  amplitude : Nat
deriving DecidableEq, Repr

/-! ### Output gating and changeover (08) -/

/-- R149: the maintenance mode. -/
inductive MaintMode where
  | normal
  | loop
  | inhibit
deriving DecidableEq, Repr

/-- R149: when a pending maintenance change is due. -/
inductive DuePoint where
  | nextEpoch
  | nextBoundary
deriving DecidableEq, Repr

/-- R149: a pending maintenance change. -/
structure PendingMaint where
  mode : MaintMode
  due : DuePoint
deriving DecidableEq, Repr

/-- R149: the origin of a changeover. -/
inductive Origin where
  | auto
  | manual
deriving DecidableEq, Repr

/-- R149: the changeover state. -/
inductive Changeover where
  | steady
  | preparing (target : Chain) (origin : Origin)
deriving DecidableEq, Repr

/-- R149: the auto-arm state. -/
inductive AutoArm where
  | armed
  | spent
deriving DecidableEq, Repr

/-- R149: the standby mode. -/
inductive Standby where
  | hot
  | cold
deriving DecidableEq, Repr

/-- R149: the gating of one output for the current minute. -/
inductive Gate where
  | keyed
  | held
deriving DecidableEq, Repr

/-- R149: output gating and changeover. A ready level is high for ASSERTED (R196). -/
structure Chains where
  maintenance : MaintMode
  pendingMaintenance : Option PendingMaint
  onAir : Chain
  changeover : Changeover
  autoArm : AutoArm
  standby : Standby
  threshold : Nat
  verdictRun : Nat
  gating : PerChain Gate
  ready : PerChain Level
deriving DecidableEq, Repr

/-! ### Off-air monitor (08) -/

/-- R152: the monitor settings. -/
structure MonSettings where
  enable : Bool
  tolerance : Nat
  delay : Nat
deriving DecidableEq, Repr

/-- R152: the monitor source. -/
inductive Source where
  | normal
  | loop
deriving DecidableEq, Repr

/-- R152: a falling transition not yet followed by a rise: its phase count, whether it fell in the current second, and the ticks of the seconds that have ended since. -/
structure OpenInterval where
  phase : Nat
  current : Bool
  carried : Nat
deriving DecidableEq, Repr

/-- R152, R154: a finished interval. -/
structure Interval where
  start : Int
  duration : Nat
deriving DecidableEq, Repr

/-- R155: the observed symbol of a second. -/
inductive Observed where
  | none
  | minute
  | mark (a b : Bool)
  | invalid
deriving DecidableEq, Repr

/-- R139, R156: the mode and symbol that the keyer hands over for a second. -/
structure KeyedSecond where
  mode : KeyMode
  symbol : Symbol
deriving DecidableEq, Repr

/-- R156: one closed second of the minute under observation. -/
structure Entry where
  second : Nat
  observed : Observed
  keyed : KeyedSecond
deriving DecidableEq, Repr

/-- R152, R156: the minute under observation; the length is absent until the end of its second 58. -/
structure Observation where
  minute : Nat
  length : Option Nat
  entries : List Entry
deriving DecidableEq, Repr

/-- R157: the verdict. -/
inductive Verdict where
  | good
  | bad
  | absent
  | notChecked
deriving DecidableEq, Repr

/-- R158: the decoded fields, each digit as read. -/
structure Decoded where
  minuteTens : Nat
  minuteUnits : Nat
  hourTens : Nat
  hourUnits : Nat
  dayTens : Nat
  dayUnits : Nat
  weekday : Nat
  monthTens : Nat
  monthUnits : Nat
  yearTens : Nat
  yearUnits : Nat
  century : Bool
  magnitude : Nat
  west : Bool
  summer : Bool
  zoneChange : Bool
  leap : Bool
  leapDelete : Bool
  chainTwo : Bool
  quality : Nat
  present : Bool
  code : Nat
  p5Passed : Bool
  p6Passed : Bool
deriving DecidableEq, Repr

/-- R159: the monitor record. -/
structure MonRecord where
  minute : Nat
  length : Nat
  source : Source
  mode : KeyMode
  verdict : Verdict
  mismatches : Nat
  observed : List Observed
  decoded : Option Decoded
deriving DecidableEq, Repr

/-- R152: the off-air monitor; keyed is what the keyer handed over for the current second, overflow that a fifth interval finished in it (R155). -/
structure Monitor where
  settings : MonSettings
  staged : Option MonSettings
  source : Source
  openInterval : Option OpenInterval
  intervals : List Interval
  overflow : Bool
  observation : Option Observation
  record : Option MonRecord
  isNew : Bool
  overwritten : Bool
  keyed : KeyedSecond
deriving DecidableEq, Repr

/-! ### Control port and notice list (09) -/

/-- R169: the receive state. -/
inductive Receive where
  | hunting
  | assembling
deriving DecidableEq, Repr

/-- R169, R176: the line speed. -/
inductive LineSpeed where
  | b9600
  | b19200
  | b38400
  | b115200
deriving DecidableEq, Repr

/-- R169, R175: a reply in transmission: the characters still to be sent, the one on the line first, the ticks that one still takes, and whether its end takes the reset of RSET (R189). -/
structure Transmission where
  toSend : Text
  ticksLeft : Nat
  resets : Bool
deriving DecidableEq, Repr

/-- R169: the control port. -/
structure Port where
  receive : Receive
  buffer : Text
  overlong : Bool
  badChar : Bool
  reply : Option Transmission
  speed : LineSpeed
deriving DecidableEq, Repr

/-- 9.3: the sixteen notice kinds, in number order. -/
inductive NoticeKind where
  | refState | select | discState | step | holdoverLimit | timeLoaded | timeEnd | slotState
  | recordDiscard | keyMode | monVerdict | changeover | chainReady | leapMismatch | link | reset
deriving DecidableEq, Repr

/-- R57: causes of REF_STATE. -/
inductive RefCause where
  | firstGood | qualified | faults | excursion | recovered | misses | enabled | disabled
deriving DecidableEq, Repr

/-- R62: causes of SELECT. -/
inductive SelCause where
  | state | priority | command
deriving DecidableEq, Repr

/-- R83: causes of DISC_STATE. -/
inductive DiscCause where
  | selected | selectionLost | locked | resumed | offset | expired | rangeEnd
deriving DecidableEq, Repr

/-- R78, R79: the limit that a HOLDOVER_LIMIT notice names. -/
inductive HoldoverLimit where
  | h1 | h2
deriving DecidableEq, Repr

/-- R34, R36: why a load was declined. -/
inductive DeclineReason where
  | state | range | leap
deriving DecidableEq, Repr

/-- R36: the result of a considered load. -/
inductive LoadResult where
  | loaded
  | unchanged
  | declined (reason : DeclineReason)
deriving DecidableEq, Repr

/-- R87: the kind of a slot. -/
inductive SlotKind where
  | zone | leap | service
deriving DecidableEq, Repr

/-- R131: the first test that a discarded record failed. -/
inductive FailedTest where
  | minute | length | mark
deriving DecidableEq, Repr

/-- R123, R131, R133: the cause of RECORD_DISCARD. -/
inductive DiscardCause where
  | replaced
  | stale (test : FailedTest)
deriving DecidableEq, Repr

/-- R133, R134, R136: the causes of KEY_MODE. -/
inductive KeyCause where
  | inhibit | unset | acquire | expired | norecord | record | load
deriving DecidableEq, Repr

/-- R161, R163, R164: the causes of CHANGEOVER; CANCELLED always has reason TARGET_NOT_READY. -/
inductive ChangeoverCause where
  | started | completed | cancelled | notReady
deriving DecidableEq, Repr

/-- R185: the cause of LINK; OVERRUN carries the discarded record's word or none. -/
inductive LinkCause where
  | restart
  | overrun (word : Option Text)
deriving DecidableEq, Repr

/-- R188: the source of a reset. -/
inductive ResetSource where
  | pin | command
deriving DecidableEq, Repr

/-- The data of a notice, one constructor per kind in number order (R193's table of data fields). -/
inductive NoticeData where
  | refState (r : RefNo) (prev new : RefState) (cause : RefCause)
  | select (prev new : Option RefNo) (mode : SelMode) (cause : SelCause)
  | discState (prev new : DiscState) (selected : Option RefNo) (cause : DiscCause)
  | step (r : RefNo) (offset asked applied : Int) (label : Option Label)
  | holdoverLimit (limit : HoldoverLimit) (elapsed : Nat) (ref : Option RefNo)
  | timeLoaded (source : LoadSource) (result : LoadResult) (target : Label)
  | timeEnd (last : Label)
  | slotState (slot : SlotNo) (kind : SlotKind) (prev new : SlotState) (minute : Nat)
  | recordDiscard (cause : DiscardCause) (discarded other : Nat) (stale : Bool)
  | keyMode (prev new : KeyMode) (cause : KeyCause)
  | monVerdict (minute : Nat) (verdict : Verdict) (mismatches run : Nat)
  | changeover (cause : ChangeoverCause) (chain : Chain)
  | chainReady (chain : Chain) (level : Level)
  | leapMismatch (r : RefNo) (mark : LeapMark) (day : Nat)
  | link (cause : LinkCause)
  | reset (source : ResetSource) (speed : LineSpeed)
deriving DecidableEq, Repr

/-- R180: one entry of the notice list; its kind is the kind of its data. -/
structure Notice where
  data : NoticeData
  count : Nat
  label : Option Label
deriving DecidableEq, Repr

/-- R180: the notice list, oldest entry first, and the mask as a list of kinds in number order. -/
structure NoticeList where
  entries : List Notice
  mask : List NoticeKind
deriving DecidableEq, Repr

/-! ### Pins and UART lines -/

/-- The input pins whose level a rule reads (R41, R154, R161, R176, R195, R196). -/
structure Pins where
  bs1 : Level
  bs0 : Level
  rdy : PerChain Level
  mon : Level
  refe : Vector Level 3
deriving DecidableEq, Repr

/-- R195: a character in reception: the ticks since the falling edge of its start bit, and the levels sampled since (high is true), at most nine. -/
structure Reception where
  ticks : Nat
  bits : List Bool
deriving DecidableEq, Repr

/-- R195: the receiver of a UART line: the level that it sampled last, and the character in reception, if any. -/
structure Receiver where
  level : Level
  reception : Option Reception
deriving DecidableEq, Repr

/-- R170, R195: the receivers of the control line and of the three word lines. -/
structure Receivers where
  control : Receiver
  words : Vector Receiver 3
deriving DecidableEq, Repr

/-- The levels that the outside puts on CRX and on REFW1 to REFW3 at the coming ticks, the next one first; a line with nothing listed is idle high (R196, log 40). -/
structure Lines where
  crx : List Level
  refw : Vector (List Level) 3
deriving DecidableEq, Repr

/-! ### The whole part -/

/-- Everything the part holds, and what comes from outside: the levels of its inputs and the queue of commands that are waiting. strobes holds for each output the ticks until its strobe has ended, counting the tick of the change (R194, log 36). -/
structure State where
  time : TimeScale
  refs : Vector Reference 3
  selector : Selector
  counter : EpochCounter
  disc : Discipline
  slots : Vector (Option Slot) 8
  nextRecord : Option Record
  keyer : Keyer
  chains : Chains
  monitor : Monitor
  port : Port
  notices : NoticeList
  strobes : PerChain Nat
  pins : Pins
  receivers : Receivers
  lines : Lines
  resetHeld : Bool
  freeCount : Nat
  pending : List Instr
deriving DecidableEq, Repr

/-- The spec names no fault that stops the part: a refused command changes nothing and is answered (R173). -/
inductive Fault where
deriving DecidableEq, Repr

/-- Reasons to refuse a command. -/
inductive Refusal where
  /-- Raised by an arm of exec whose command has no meaning yet; safe. No arm raises it now. -/
  | notModelled (mnemonic : String)
deriving DecidableEq, Repr

/-- The outcome of a command on this part. -/
abbrev Out := Host.Outcome State Fault Refusal

/-! ### The state right after reset -/

/-- R39: no observations. -/
def SecondObs.empty : SecondObs :=
  { edges := 0, offset := none, wordMissing := false, disagreed := false, excursion := false }

/-- R38, R39: reference r after reset. -/
def Reference.reset (r : RefNo) : Reference :=
  { polarity := .rising, delay := 0,
    mask := { sec := true, min := true, hour := true, date := true },
    lossMode := .normal, priority := r.val + 1,
    state := .lost, goodRun := 0, faultCount := 0, missCount := 0,
    held := none, assembly := none, obs := SecondObs.empty,
    jitterBase := none, last := none, review := none, reviewPending := true }

/-- R84: the discipline settings after reset. -/
def DiscSettings.reset : DiscSettings :=
  { j := 100, w := 50, b := 2, s := 10000, h1 := 3600, h2 := 86400, expiry := .bare }

/-- R67: the discipline controller after reset. -/
def Discipline.reset : Discipline :=
  { state := .free, lockRun := 0, excursions := 0, elapsed := 0, h1Passed := false,
    holdoverRef := none, expired := false, entrySecond := false, firstAwaited := false,
    stepped := false, lastApplied := none, settings := DiscSettings.reset, staged := none }

/-- R141: the envelope settings after reset. -/
def Envelope.reset : Envelope :=
  { depth := 150, segment := 2500, shape := #v[50, 150, 300, 500, 700, 850, 950, 1000] }

/-- R130: the keyer after reset. -/
def Keyer.reset : Keyer :=
  { air := none, mode := .quiet, active := Envelope.reset, staged := none,
    schedule := [], dropIndex := 0, phase := .idle, amplitude := 1000 }

/-- R149: output gating and changeover after reset, with the ready levels sampled at the release. -/
def Chains.reset (ready : PerChain Level) : Chains :=
  { maintenance := .inhibit, pendingMaintenance := none, onAir := .one, changeover := .steady,
    autoArm := .armed, standby := .hot, threshold := 3, verdictRun := 0,
    gating := { one := .keyed, two := .keyed }, ready := ready }

/-- R152: the monitor after reset. -/
def Monitor.reset : Monitor :=
  { settings := { enable := true, tolerance := 20000, delay := 0 }, staged := none,
    source := .normal, openInterval := none, intervals := [], overflow := false,
    observation := none, record := none, isNew := false, overwritten := false,
    keyed := { mode := .quiet, symbol := .none } }

/-- R169: the control port after reset, at the speed the pins give. -/
def Port.reset (speed : LineSpeed) : Port :=
  { receive := .hunting, buffer := [], overlong := false, badChar := false,
    reply := none, speed := speed }

/-- R196: a receiver after reset: no character in reception, and the line taken as idle (log 40). -/
def Receiver.reset : Receiver := { level := .high, reception := none }

/-- R196: the four receivers after reset. -/
def Receivers.reset : Receivers := { control := Receiver.reset, words := Vector.replicate 3 Receiver.reset }

/-- The part right after the release of a pin reset (R188). The levels of the input pins are the model's (log 10). -/
def State.reset : State :=
  { time := { label := none, pending := none, zone := .standard, standardOffset := 0, summerOffset := 0 },
    refs := #v[Reference.reset 0, Reference.reset 1, Reference.reset 2],
    selector := { mode := .autoRevert, selected := none },
    counter := { phase := 0, length := nominalSecond },
    disc := Discipline.reset,
    slots := Vector.replicate 8 none,
    nextRecord := none,
    keyer := Keyer.reset,
    chains := Chains.reset { one := .low, two := .low },
    monitor := Monitor.reset,
    port := Port.reset .b9600,
    notices :=
      { entries := [{ data := .reset .pin .b9600, count := 1, label := none }], mask := [] },
    strobes := { one := 3, two := 3 },
    pins :=
      { bs1 := .low, bs0 := .low, rdy := { one := .low, two := .low }, mon := .high,
        refe := Vector.replicate 3 .low },
    receivers := Receivers.reset,
    lines := { crx := [], refw := Vector.replicate 3 [] },
    resetHeld := false,
    freeCount := 0,
    pending := [] }

end Sys2Proof.Machine
end

