-- ==== Sys2Proof/Machine/Calendar.lean ====
section
/-! DEFINITION. Machine/Calendar.lean: day numbers, dates, weekdays, times of day and label ranges (R22 to R26, R30). -/

namespace Sys2Proof.Machine

/-- R23: leap years. -/
def isLeapYear (y : Nat) : Bool := (y % 4 == 0 && y % 100 != 0) || y % 400 == 0

/-- R23: the length of a year in days. -/
def yearLength (y : Nat) : Nat := if isLeapYear y then 366 else 365

/-- R23: the length of a month in days. -/
def monthLength (y m : Nat) : Nat :=
  if m == 2 then (if isLeapYear y then 29 else 28)
  else if m == 4 || m == 6 || m == 9 || m == 11 then 30
  else 31

/-- R23: take whole years off n days from the start of year y, at most fuel of them: the year reached and the days that remain. -/
def splitYears : Nat → Nat → Nat → Nat × Nat
  | 0, y, n => (y, n)
  | fuel + 1, y, n => if n < yearLength y then (y, n) else splitYears fuel (y + 1) (n - yearLength y)

/-- R23: take whole months of year y off n days from the start of month m, at most fuel of them. -/
def splitMonths (y : Nat) : Nat → Nat → Nat → Nat × Nat
  | 0, m, n => (m, n)
  | fuel + 1, m, n => if n < monthLength y m then (m, n) else splitMonths y fuel (m + 1) (n - monthLength y m)

/-- R23: the date of a day number. A year has at least 365 days, so n / 365 + 1 steps are enough for every n (log 16 for days past the span). -/
def dateOfDay (n : Nat) : Date :=
  let (y, r) := splitYears (n / 365 + 1) 2000 n
  let (m, d) := splitMonths y 11 1 r
  { year := y, month := m, day := d + 1 }

/-- R24: the days of the years from 2000 up to the year before 2000 + k. -/
def daysBeforeYear : Nat → Nat
  | 0 => 0
  | k + 1 => daysBeforeYear k + yearLength (2000 + k)

/-- R24: the month starts of the table: the days of an ordinary year before a month. -/
def monthStart : Nat → Nat
  | 1 => 0 | 2 => 31 | 3 => 59 | 4 => 90 | 5 => 120 | 6 => 151
  | 7 => 181 | 8 => 212 | 9 => 243 | 10 => 273 | 11 => 304 | _ => 334

/-- R24: the days before a month in a given year: from March on a leap year has one more. -/
def daysBeforeMonth (y m : Nat) : Nat :=
  monthStart m + if isLeapYear y && decide (3 ≤ m) then 1 else 0

/-- R24: the day number of a valid date. -/
def dayOfDate (d : Date) : Nat :=
  daysBeforeYear (d.year - 2000) + daysBeforeMonth d.year d.month + (d.day - 1)

/-- R24: which dates are valid. -/
def Date.valid (d : Date) : Bool :=
  decide (2000 ≤ d.year) && decide (d.year ≤ 2199) && decide (1 ≤ d.month) && decide (d.month ≤ 12) &&
    decide (1 ≤ d.day) && decide (d.day ≤ monthLength d.year d.month)

/-- R22: the day numbers of the time scale's range. -/
def dayInRange (n : Nat) : Bool := decide (1 ≤ n) && decide (n ≤ 73047)

/-- R25: the weekday of a day number, 1 for Monday through 7 for Sunday. -/
def weekdayOfDay (n : Nat) : Nat := (n + 5) % 7 + 1

/-- The day number of a minute number (02, The label). -/
def dayOfMinute (m : Nat) : Nat := m / 1440

/-- The minute of day of a minute number (02, The label). -/
def minuteOfDay (m : Nat) : Nat := m % 1440

/-- R26: the hour of a minute number. -/
def hourOfMinute (m : Nat) : Nat := minuteOfDay m / 60

/-- R26: the minute of the hour of a minute number. -/
def minuteOfHour (m : Nat) : Nat := minuteOfDay m % 60

/-- R32: the minute number of a day and a time of day. -/
def minuteNumber (day hour minute : Nat) : Nat := day * 1440 + hour * 60 + minute

/-- R22: the last minute number of the range. -/
abbrev lastMinute : Nat := 105189119

/-- R88: a day number that is the last day of its month. -/
def isMonthEnd (day : Nat) : Bool :=
  let d := dateOfDay day
  d.day == monthLength d.year d.month

/-- The last day of the month that a day lies in (R48). -/
def monthEndOf (day : Nat) : Nat :=
  let d := dateOfDay day
  day + (monthLength d.year d.month - d.day)

/-- R88: the effective minute of a leap on this day. -/
def leapMinute (day : Nat) : Nat := day * 1440 + 1439

/-- R27: the offset held for a zone state. -/
def TimeScale.offset (t : TimeScale) : Zone → Int
  | .standard => t.standardOffset
  | .summer => t.summerOffset

/-- R30: the local minute number of a UTC minute number under a zone state. -/
def TimeScale.localMinute (t : TimeScale) (z : Zone) (m : Nat) : Nat := (Int.ofNat m + t.offset z).toNat

/-- R18: the time status is SET. -/
def TimeScale.isSet (t : TimeScale) : Bool := t.label.isSome

end Sys2Proof.Machine
end

