-- ==== Sys2Proof/Machine/Text.lean ====
section
/-! DEFINITION. Machine/Text.lean: how numbers, dates and names are written on the control line (R191), and the names the manual spells. -/

namespace Sys2Proof.Machine

/-- The character of a decimal digit. -/
def digitChar (d : Nat) : Char := Char.ofNat (48 + d)

/-- The last w decimal digits of n, zero-filled. -/
def fixed : Nat → Nat → Text
  | 0, _ => []
  | w + 1, n => fixed w (n / 10) ++ [digitChar (n % 10)]

/-- The decimal digits of n, at most fuel of them. -/
def decimalAux : Nat → Nat → Text
  | 0, _ => []
  | fuel + 1, n => if n < 10 then [digitChar n] else decimalAux fuel (n / 10) ++ [digitChar (n % 10)]

/-- R191: a number. The form allows leading zeros; that a reply writes none outside images is the model's choice (log 44). -/
def decimal (n : Nat) : Text := decimalAux (n.log2 + 1) n

/-- The sign character of a signed number; zero takes '+' (R191). -/
def signChar (z : Int) : Char := if z < 0 then '-' else '+'

/-- R191: a signed number. -/
def signed (z : Int) : Text := signChar z :: decimal z.natAbs

/-- R193: a signed number in an image, a sign followed by w digits. -/
def signedFixed (w : Nat) (z : Int) : Text := signChar z :: fixed w z.natAbs

/-- A hexadecimal digit in capitals. -/
def hexChar (d : Nat) : Char := if d < 10 then Char.ofNat (48 + d) else Char.ofNat (55 + d)

/-- The last w hexadecimal digits of n, most significant first. -/
def hexFixed : Nat → Nat → Text
  | 0, _ => []
  | w + 1, n => hexFixed w (n / 16) ++ [hexChar (n % 16)]

/-- R193: an absent item of an image. -/
def dashes (w : Nat) : Text := List.replicate w '-'

/-- R191: a date. -/
def dateText (d : Date) : Text := fixed 4 d.year ++ fixed 2 d.month ++ fixed 2 d.day

/-- R191: a minute, twelve digits. -/
def minuteText (m : Nat) : Text :=
  dateText (dateOfDay (dayOfMinute m)) ++ fixed 2 (hourOfMinute m) ++ fixed 2 (minuteOfHour m)

/-- R191: a label, fourteen digits; R26 shows second 60 as it is. -/
def labelText (l : Label) : Text := minuteText l.minute ++ fixed 2 l.second

/-- R191: a label, or UNSET. -/
def labelOrUnset : Option Label → Text
  | some l => labelText l
  | none => "UNSET".toList

/-- The number of a reference. -/
def refText (r : RefNo) : Text := decimal (r.val + 1)

/-- R192: a reference or NONE. -/
def refOrNone : Option RefNo → Text
  | some r => refText r
  | none => "NONE".toList

/-- The number of a slot. -/
def slotText (k : SlotNo) : Text := decimal (k.val + 1)

/-- The number of a chain. -/
def Chain.number : Chain → Nat
  | .one => 1
  | .two => 2

/-- The number of a chain as text. -/
def chainText (c : Chain) : Text := decimal (Chain.number c)

/-- R191: a flag. -/
def flagText (b : Bool) : Text := if b then ['1'] else ['0']

/-- YES or NO. -/
def yesNo (b : Bool) : Text := if b then "YES".toList else "NO".toList

/-- SET or CLEAR. -/
def setClear (b : Bool) : Text := if b then "SET".toList else "CLEAR".toList

/-- ON or OFF. -/
def onOff (b : Bool) : Text := if b then "ON".toList else "OFF".toList

/-- An item, or an empty field where it is absent (R191). -/
def orEmpty {α : Type} (f : α → Text) : Option α → Text
  | some a => f a
  | none => []

/-- An item, or NONE where it is absent. -/
def orNone {α : Type} (f : α → Text) : Option α → Text
  | some a => f a
  | none => "NONE".toList

/-! ### Names -/

/-- The command words (9.2). -/
def commandWord : Command → Text
  | .stat => "STAT".toList | .sett => "SETT".toList | .refc => "REFC".toList | .refs => "REFS".toList
  | .selc => "SELC".toList | .disc => "DISC".toList | .zonc => "ZONC".toList | .annw => "ANNW".toList
  | .annr => "ANNR".toList | .annc => "ANNC".toList | .keyc => "KEYC".toList | .outc => "OUTC".toList
  | .monc => "MONC".toList | .monr => "MONR".toList | .recr => "RECR".toList | .mntc => "MNTC".toList
  | .note => "NOTE".toList | .nmsk => "NMSK".toList | .rset => "RSET".toList

/-- The nineteen commands. -/
def allCommands : List Command :=
  [.stat, .sett, .refc, .refs, .selc, .disc, .zonc, .annw, .annr, .annc,
   .keyc, .outc, .monc, .monr, .recr, .mntc, .note, .nmsk, .rset]

/-- R18: zone states. -/
def zoneText : Zone → Text
  | .standard => "STANDARD".toList
  | .summer => "SUMMER".toList

/-- R38: edge polarities. -/
def edgeText : Edge → Text
  | .rising => "RISING".toList
  | .falling => "FALLING".toList

/-- R38: loss modes. -/
def lossText : LossMode → Text
  | .normal => "NORMAL".toList
  | .extended => "EXTENDED".toList

/-- R191: the letters of a mask. The form allows any order; that a reply writes S, M, H, D is the model's choice (log 44). -/
def maskText (m : Mask) : Text :=
  (if m.sec then ['S'] else []) ++ (if m.min then ['M'] else []) ++
    (if m.hour then ['H'] else []) ++ (if m.date then ['D'] else [])

/-- R39: reference states. -/
def refStateText : RefState → Text
  | .off => "OFF".toList | .lost => "LOST".toList | .qualifying => "QUALIFYING".toList
  | .good => "GOOD".toList | .rejected => "REJECTED".toList

/-- R57: causes of REF_STATE. -/
def refCauseText : RefCause → Text
  | .firstGood => "FIRST_GOOD".toList | .qualified => "QUALIFIED".toList | .faults => "FAULTS".toList
  | .excursion => "EXCURSION".toList | .recovered => "RECOVERED".toList | .misses => "MISSES".toList
  | .enabled => "ENABLED".toList | .disabled => "DISABLED".toList

/-- R60: selector modes. -/
def selModeText : SelMode → Text
  | .autoRevert => "AUTO_REVERT".toList
  | .autoHold => "AUTO_HOLD".toList
  | .force _ => "FORCE".toList

/-- R62: causes of SELECT. -/
def selCauseText : SelCause → Text
  | .state => "STATE".toList | .priority => "PRIORITY".toList | .command => "COMMAND".toList

/-- R67: discipline states. -/
def discStateText : DiscState → Text
  | .free => "FREE".toList | .acquire => "ACQUIRE".toList
  | .track => "TRACK".toList | .holdover => "HOLDOVER".toList

/-- R83: causes of DISC_STATE. -/
def discCauseText : DiscCause → Text
  | .selected => "SELECTED".toList | .selectionLost => "SELECTION_LOST".toList | .locked => "LOCKED".toList
  | .resumed => "RESUMED".toList | .offset => "OFFSET".toList | .expired => "EXPIRED".toList
  | .rangeEnd => "RANGE_END".toList

/-- R192: the expiry action on the line. -/
def expiryText : ExpiryAction → Text
  | .bare => ['B']
  | .continue => ['C']

/-- R78, R79: limits. -/
def limitText : HoldoverLimit → Text
  | .h1 => "H1".toList
  | .h2 => "H2".toList

/-- R36: a load source. -/
def sourceText : LoadSource → Text
  | .host => "HOST".toList
  | .reference r => refText r

/-- R36: the result and the reason fields. -/
def loadResultTexts : LoadResult → List Text
  | .loaded => ["LOADED".toList, []]
  | .unchanged => ["UNCHANGED".toList, []]
  | .declined .state => ["DECLINED".toList, "STATE".toList]
  | .declined .range => ["DECLINED".toList, "RANGE".toList]
  | .declined .leap => ["DECLINED".toList, "LEAP".toList]

/-- R87: slot kinds. -/
def slotKindText : SlotKind → Text
  | .zone => "ZONE".toList | .leap => "LEAP".toList | .service => "SERVICE".toList

/-- R87: slot states. -/
def slotStateText : SlotState → Text
  | .armed => "ARMED".toList | .announcing => "ANNOUNCING".toList
  | .committed => "COMMITTED".toList | .done _ => "DONE".toList

/-- R87: outcomes. -/
def outcomeText : SlotOutcome → Text
  | .applied => "APPLIED".toList | .passed => "PASSED".toList
  | .missed => "MISSED".toList | .ended => "ENDED".toList

/-- R192: outcome or empty. -/
def stateOutcomeText : SlotState → Text
  | .done o => outcomeText o
  | _ => []

/-- R88: leap directions. -/
def leapDirText : LeapDir → Text
  | .insert => "INSERT".toList
  | .delete => "DELETE".toList

/-- R45: the leap indicator character. -/
def leapMarkChar : LeapMark → Char
  | .nothing => '0' | .inserted => '+' | .deleted => '-'

/-- R123, R131: the cause of RECORD_DISCARD. -/
def discardCauseText : DiscardCause → Text
  | .replaced => "REPLACED".toList
  | .stale _ => "STALE".toList

/-- R131: the failed test or empty. -/
def failedTestText : DiscardCause → Text
  | .replaced => []
  | .stale .minute => "MINUTE".toList
  | .stale .length => "LENGTH".toList
  | .stale .mark => "MARK".toList

/-- R16: keying modes. -/
def keyModeText : KeyMode → Text
  | .full => "FULL".toList | .bare => "BARE".toList | .quiet => "QUIET".toList

/-- R133, R134: causes of KEY_MODE. -/
def keyCauseText : KeyCause → Text
  | .inhibit => "INHIBIT".toList | .unset => "UNSET".toList | .acquire => "ACQUIRE".toList
  | .expired => "EXPIRED".toList | .norecord => "NORECORD".toList | .record => "RECORD".toList
  | .load => "LOAD".toList

/-- R157: verdicts. -/
def verdictText : Verdict → Text
  | .good => "GOOD".toList | .bad => "BAD".toList
  | .absent => "ABSENT".toList | .notChecked => "NOT_CHECKED".toList

/-- R161, R163, R164: the cause and reason fields of CHANGEOVER. -/
def changeoverCauseTexts : ChangeoverCause → List Text
  | .started => ["STARTED".toList, []]
  | .completed => ["COMPLETED".toList, []]
  | .cancelled => ["CANCELLED".toList, "TARGET_NOT_READY".toList]
  | .notReady => ["NOTREADY".toList, []]

/-- R161: a chain-ready level. -/
def readyText : Level → Text
  | .high => "ASSERTED".toList
  | .low => "NEGATED".toList

/-- R185: the cause and word fields of LINK. -/
def linkCauseTexts : LinkCause → List Text
  | .restart => ["RESTART".toList, []]
  | .overrun w => ["OVERRUN".toList, w.getD []]

/-- R188: sources of a reset. -/
def resetSourceText : ResetSource → Text
  | .pin => "PIN".toList
  | .command => "COMMAND".toList

/-- R176: the line speed in baud. -/
def LineSpeed.baud : LineSpeed → Nat
  | .b9600 => 9600 | .b19200 => 19200 | .b38400 => 38400 | .b115200 => 115200

/-- R195: the ticks of one bit. -/
def LineSpeed.bitTicks : LineSpeed → Nat
  | .b9600 => 1042 | .b19200 => 521 | .b38400 => 260 | .b115200 => 87

/-- R149: maintenance modes. -/
def maintText : MaintMode → Text
  | .normal => "NORMAL".toList | .loop => "LOOP".toList | .inhibit => "INHIBIT".toList

/-- R149: due points. -/
def dueText : DuePoint → Text
  | .nextEpoch => "NEXT_EPOCH".toList
  | .nextBoundary => "NEXT_BOUNDARY".toList

/-- R149: auto-arm states. -/
def autoArmText : AutoArm → Text
  | .armed => "ARMED".toList
  | .spent => "SPENT".toList

/-- R149: standby modes. -/
def standbyText : Standby → Text
  | .hot => "HOT".toList
  | .cold => "COLD".toList

/-- R149: the changeover state. -/
def changeoverText : Changeover → Text
  | .steady => "STEADY".toList
  | .preparing _ _ => "PREPARING".toList

/-- R152: monitor sources. -/
def monSourceText : Source → Text
  | .normal => "NORMAL".toList
  | .loop => "LOOP".toList

/-- 9.3: the names of the notice kinds. -/
def kindText : NoticeKind → Text
  | .refState => "REF_STATE".toList | .select => "SELECT".toList | .discState => "DISC_STATE".toList
  | .step => "STEP".toList | .holdoverLimit => "HOLDOVER_LIMIT".toList | .timeLoaded => "TIME_LOADED".toList
  | .timeEnd => "TIME_END".toList | .slotState => "SLOT_STATE".toList | .recordDiscard => "RECORD_DISCARD".toList
  | .keyMode => "KEY_MODE".toList | .monVerdict => "MON_VERDICT".toList | .changeover => "CHANGEOVER".toList
  | .chainReady => "CHAIN_READY".toList | .leapMismatch => "LEAP_MISMATCH".toList | .link => "LINK".toList
  | .reset => "RESET".toList

/-- 9.3: the numbers of the notice kinds. -/
def NoticeKind.number : NoticeKind → Nat
  | .refState => 1 | .select => 2 | .discState => 3 | .step => 4 | .holdoverLimit => 5 | .timeLoaded => 6
  | .timeEnd => 7 | .slotState => 8 | .recordDiscard => 9 | .keyMode => 10 | .monVerdict => 11
  | .changeover => 12 | .chainReady => 13 | .leapMismatch => 14 | .link => 15 | .reset => 16

/-- The kinds that can be masked, 1 to 15, in number order (R180, R186). -/
def maskableKinds : List NoticeKind :=
  [.refState, .select, .discState, .step, .holdoverLimit, .timeLoaded, .timeEnd, .slotState,
   .recordDiscard, .keyMode, .monVerdict, .changeover, .chainReady, .leapMismatch, .link]

/-- The kind that a notice's data belongs to. -/
def NoticeData.kind : NoticeData → NoticeKind
  | .refState .. => .refState | .select .. => .select | .discState .. => .discState | .step .. => .step
  | .holdoverLimit .. => .holdoverLimit | .timeLoaded .. => .timeLoaded | .timeEnd .. => .timeEnd
  | .slotState .. => .slotState | .recordDiscard .. => .recordDiscard | .keyMode .. => .keyMode
  | .monVerdict .. => .monVerdict | .changeover .. => .changeover | .chainReady .. => .chainReady
  | .leapMismatch .. => .leapMismatch | .link .. => .link | .reset .. => .reset

/-- R193: the data fields of a notice, in order. That the two K of RECORD_DISCARD are written as minutes, as MON_VERDICT writes its K, is the model's choice (log 47). -/
def noticeFields : NoticeData → List Text
  | .refState r p n c => [refText r, refStateText p, refStateText n, refCauseText c]
  | .select p n m c => [refOrNone p, refOrNone n, selModeText m, selCauseText c]
  | .discState p n r c => [discStateText p, discStateText n, refOrNone r, discCauseText c]
  | .step r e a b l => [refText r, signed e, signed a, signed b, labelOrUnset l]
  | .holdoverLimit l e r => [limitText l, decimal e, refOrNone r]
  | .timeLoaded s r t => sourceText s :: (loadResultTexts r ++ [labelText t])
  | .timeEnd l => [labelText l]
  | .slotState k d p n m => [slotText k, slotKindText d, slotStateText p, slotStateText n, stateOutcomeText n, minuteText m]
  | .recordDiscard c k m b => [discardCauseText c, minuteText k, minuteText m, yesNo b, failedTestText c]
  | .keyMode p n c => [keyModeText p, keyModeText n, keyCauseText c]
  | .monVerdict m v k r => [minuteText m, verdictText v, decimal k, decimal r]
  | .changeover c ch => changeoverCauseTexts c ++ [chainText ch]
  | .chainReady ch l => [chainText ch, readyText l]
  | .leapMismatch r m d => [refText r, [leapMarkChar m], dateText (dateOfDay d)]
  | .link c => linkCauseTexts c
  | .reset s v => [resetSourceText s, decimal (LineSpeed.baud v)]

/-- 9.1: the status words of a reply. -/
inductive Status where
  | ok | badform | badcheck | unknown | range | state | late | order
  | conflict | badday | notime | notready | busy
deriving DecidableEq, Repr

/-- R173: how a status is written. -/
def statusText : Status → Text
  | .ok => "OK".toList | .badform => "BADFORM".toList | .badcheck => "BADCHECK".toList
  | .unknown => "UNKNOWN".toList | .range => "RANGE".toList | .state => "STATE".toList
  | .late => "LATE".toList | .order => "ORDER".toList | .conflict => "CONFLICT".toList
  | .badday => "BADDAY".toList | .notime => "NOTIME".toList | .notready => "NOTREADY".toList
  | .busy => "BUSY".toList

end Sys2Proof.Machine
end

