-- ==== Sys2Proof/Machine/Ops.lean ====
section
/-! DEFINITION. Machine/Ops.lean: the shared operations: posting a notice, free choices of order, passing time, and the levels of the output lines. -/

namespace Sys2Proof.Machine

/-! ### The notice list (9.3) -/

/-- R181: the list holds an entry of this kind. -/
def NoticeList.holds (l : NoticeList) (k : NoticeKind) : Bool := l.entries.any (fun e => e.data.kind == k)

/-- R181: an occurrence merged into an entry of its kind. -/
def Notice.merge (e : Notice) (d : NoticeData) (label : Option Label) : Notice :=
  { data := d, count := min 255 (e.count + 1), label := label }

/-- R181: the list takes an occurrence: dropped when masked, merged when its kind is listed, else added at the end. -/
def NoticeList.post (l : NoticeList) (d : NoticeData) (label : Option Label) : NoticeList :=
  if l.mask.contains d.kind then l
  else if l.holds d.kind then
    { l with entries := l.entries.map (fun e => if e.data.kind == d.kind then e.merge d label else e) }
  else { l with entries := l.entries ++ [{ data := d, count := 1, label := label }] }

/-- A block posts an occurrence with this notice label. -/
def State.post (s : State) (d : NoticeData) (label : Option Label) : State :=
  { s with notices := s.notices.post d label }

/-! ### Free choices of order (log 3, 4, 5, 14) -/

/-- x put into xs at the place that n selects. -/
def insertFree {α : Type} (n : Nat) (x : α) (xs : List α) : List α :=
  xs.take (n % (xs.length + 1)) ++ x :: xs.drop (n % (xs.length + 1))

/-- The free ones put among the fixed ones, whose own order stays; every interleaving is selected by some n. -/
def interleave {α : Type} : Nat → List α → List α → List α
  | _, [], fixedOnes => fixedOnes
  | n, x :: free, fixedOnes =>
    interleave (n / (fixedOnes.length + 1)) free (insertFree n x fixedOnes)

/-- The next free number. -/
def State.freeNow (s : State) : Nat := Config.freeChoice s.freeCount

/-- The state after a free number has been read. -/
def State.countFree (s : State) : State := { s with freeCount := s.freeCount + 1 }

/-! ### References and slots -/

/-- One reference's record. -/
def State.ref (s : State) (r : RefNo) : Reference := s.refs[r]

/-- The state with one reference's record replaced. -/
def State.setRef (s : State) (r : RefNo) (x : Reference) : State := { s with refs := s.refs.set r x }

/-- One slot. -/
def State.slot (s : State) (k : SlotNo) : Option Slot := s.slots[k]

/-- The state with one slot replaced. -/
def State.setSlot (s : State) (k : SlotNo) (x : Option Slot) : State := { s with slots := s.slots.set k x }

/-- The three references in number order. -/
def allRefs : List RefNo := [0, 1, 2]

/-- The eight slots in number order. -/
def allSlots : List SlotNo := [0, 1, 2, 3, 4, 5, 6, 7]

/-! ### Time passing within a second -/

/-- R194: strobes after n ticks. -/
def strobesAfter (n : Nat) (p : PerChain Nat) : PerChain Nat := { one := p.one - n, two := p.two - n }

/-- The phase count reaches t with nothing else happening on the way (log 6). -/
def State.reach (s : State) (t : Nat) : State :=
  { s with
    counter := { s.counter with phase := max s.counter.phase t },
    strobes := strobesAfter (t - s.counter.phase) s.strobes }

/-! ### Output lines (R146, R183, R194, R196) -/

/-- R146: the amplitude that an output presents. -/
def State.presented (s : State) (c : Chain) : Nat :=
  match s.chains.gating.get c with
  | .keyed => s.keyer.amplitude
  | .held => 1000

/-- R194: the word on an output's ten data lines. -/
def State.ampWord (s : State) (c : Chain) : AmpWord := BitVec.ofNat 10 (s.presented c)

/-- R194: a strobe is high in the two ticks that follow the tick of the change. -/
def strobeLevel (left : Nat) : Level := if 1 ≤ left ∧ left ≤ 2 then .high else .low

/-- R194: the strobe line of an output. -/
def State.strobe (s : State) (c : Chain) : Level := strobeLevel (s.strobes.get c)

/-- R167, R196: the changeover output, low for chain 1; during reset it names chain 1 because the on-air chain does (R187). -/
def State.chg (s : State) : Level :=
  match s.chains.onAir with
  | .one => .low
  | .two => .high

/-- R183, R196: ATTN is asserted while the list holds an entry. -/
def State.attn (s : State) : Level := if s.notices.entries.isEmpty then .low else .high

/-- R195: the level of bit i of a character's ten bits: start bit, eight data bits least significant first, stop bit. -/
def charBit (c : Char) (i : Nat) : Level :=
  if i = 0 then .low
  else if i ≤ 8 then (if c.toNat.testBit (i - 1) then .high else .low)
  else .high

/-- R175, R195, R196: the transmit line, idle high. -/
def State.ctx (s : State) : Level :=
  match s.port.reply with
  | some { toSend := c :: _, ticksLeft := t, resets := _ } =>
    charBit c ((10 * s.port.speed.bitTicks - t) / s.port.speed.bitTicks)
  | _ => .high

end Sys2Proof.Machine
end

