-- ==== Sys2Proof/Machine/Table.lean ====
section
/-! DEFINITION. Machine/Table.lean: the announcement table (05): what the slots answer, and how they move at a composition, a boundary and a time load. -/

namespace Sys2Proof.Machine

/-- R87: active is ARMED, ANNOUNCING or COMMITTED. -/
def SlotState.active : SlotState → Bool
  | .done _ => false
  | _ => true

/-- R87: the kind of a slot. -/
def SlotContent.kind : SlotContent → SlotKind
  | .zone .. => .zone
  | .leap .. => .leap
  | .service .. => .service

/-- R110: the effective minute, or T for a SERVICE slot. -/
def SlotContent.minute : SlotContent → Nat
  | .zone e _ _ => e
  | .leap d _ _ => leapMinute d
  | .service _ t _ => t

/-- The eight slots as a list, number order. -/
abbrev slotList (slots : Vector (Option Slot) 8) : List (Option Slot) := slots.toList

/-- R21: a COMMITTED LEAP slot with this effective minute and direction. -/
def Slot.isCommittedLeap (x : Slot) (dir : LeapDir) (m : Nat) : Bool :=
  match x.state, x.content with
  | .committed, .leap d dir' _ => leapMinute d == m && decide (dir' = dir)
  | _, _ => false

/-- R21: the table holds a COMMITTED LEAP slot with this effective minute and direction. -/
def committedLeap (slots : Vector (Option Slot) 8) (dir : LeapDir) (m : Nat) : Bool :=
  (slotList slots).any (fun o => o.any (fun x => x.isCommittedLeap dir m))

/-- R100, R132: the length of a minute. -/
def minuteLength (slots : Vector (Option Slot) 8) (m : Nat) : Nat :=
  if committedLeap slots .insert m then 61
  else if committedLeap slots .delete m then 59
  else 60

/-- R48: an active LEAP slot for this day, whatever its direction. -/
def activeLeapOn (slots : Vector (Option Slot) 8) (day : Nat) : Bool :=
  (slotList slots).any (fun o => o.any (fun x =>
    match x.content with
    | .leap d _ _ => x.state.active && d == day
    | _ => false))

/-- An active ZONE slot as its effective minute and target. -/
def Slot.zonePart (x : Slot) : Option (Nat × Zone) :=
  match x.content with
  | .zone e z _ => if x.state.active then some (e, z) else none
  | _ => none

/-- Put a pair in order of its minute. -/
def insertByMinute {α : Type} (p : Nat × α) : List (Nat × α) → List (Nat × α)
  | [] => [p]
  | q :: qs => if p.1 ≤ q.1 then p :: q :: qs else q :: insertByMinute p qs

/-- Pairs in order of their minute. -/
def sortByMinute {α : Type} (ps : List (Nat × α)) : List (Nat × α) := ps.foldr insertByMinute []

/-- R92: the active ZONE slots in order of effective minute, as minutes and targets. -/
def zoneSchedule (slots : List (Option Slot)) : List (Nat × Zone) :=
  sortByMinute (slots.filterMap (fun o => o.bind Slot.zonePart))

/-- R92: the targets alternate, the first opposite to the zone given. -/
def alternates : Zone → List (Nat × Zone) → Bool
  | _, [] => true
  | z, p :: ps => decide (p.2 ≠ z) && alternates p.2 ps

/-- R98: the zone state at D: the target of the active ZONE slot with the greatest effective minute not later than D, else the zone in force. -/
def zoneAt (slots : Vector (Option Slot) 8) (inForce : Zone) (d : Nat) : Zone :=
  (zoneSchedule (slotList slots)).foldl (fun z p => if p.1 ≤ d then p.2 else z) inForce

/-- R99: the zone change flag. -/
def zoneChangeFlag (slots : Vector (Option Slot) 8) (d : Nat) : Bool :=
  (slotList slots).any (fun o => o.any (fun x =>
    match x.content with
    | .zone e _ w => x.state.active && decide (e ≤ d + w) && decide (d < e)
    | _ => false))

/-- R99: an active LEAP slot whose window holds D gives its direction. -/
def Slot.leapAnswer (x : Slot) (d : Nat) : Option LeapDir :=
  match x.content with
  | .leap day dir w =>
    if x.state.active && decide (leapMinute day ≤ d + w) && decide (d ≤ leapMinute day) then some dir else none
  | _ => none

/-- R99: the leap flag and direction, from the lowest-numbered qualifying slot. -/
def leapAnswer (slots : Vector (Option Slot) 8) (d : Nat) : Option LeapDir :=
  (slotList slots).findSome? (fun o => o.bind (fun x => x.leapAnswer d))

/-- R101: a SERVICE slot that qualifies for D gives its code. -/
def Slot.serviceAnswer (x : Slot) (d : Nat) : Option Nat :=
  match x.state, x.content with
  | .announcing, .service s t c => if s ≤ d ∧ d < t then some c else none
  | _, _ => none

/-- R101: the lowest-numbered SERVICE slot that supplies the code for D. -/
def serviceSupplier (slots : Vector (Option Slot) 8) (d : Nat) : Option SlotNo :=
  allSlots.find? (fun k => (slots[k]).any (fun x => (x.serviceAnswer d).isSome))

/-- R101: the service code for D. -/
def serviceCode (slots : Vector (Option Slot) 8) (d : Nat) : Option Nat :=
  (serviceSupplier slots d).bind (fun k => (slots[k]).bind (fun x => x.serviceAnswer d))

/-! ### Moves -/

/-- R110: a slot takes a new state; a change to COMMITTED or DONE posts SLOT_STATE. -/
def State.moveSlot (s : State) (k : SlotNo) (new : SlotState) (label : Option Label) : State :=
  match s.slot k with
  | none => s
  | some x =>
    let s := s.setSlot k (some { x with state := new })
    let data := NoticeData.slotState k x.content.kind x.state new x.content.minute
    match new with
    | .committed => s.post data label
    | .done _ => s.post data label
    | _ => s

/-- A slot's carried flag becomes NO. -/
def State.uncarry (s : State) (k : SlotNo) : State :=
  match s.slot k with
  | none => s
  | some x => s.setSlot k (some { x with carried := false })

/-- R29: an application sets the zone state in force. -/
def State.setZone (s : State) (z : Zone) : State := { s with time := { s.time with zone := z } }

/-- R98, R100, R101: the state that a slot moves to at the composition for K and D = K + 1, if it moves. -/
def Slot.atComposition (x : Slot) (k d : Nat) : Option SlotState :=
  match x.content, x.state with
  | .zone e _ w, .armed => if d = e then some .committed else if e ≤ d + w ∧ d < e then some .announcing else none
  | .zone e _ _, .announcing => if d = e then some .committed else none
  | .leap day _ w, .armed =>
    if k = leapMinute day then some .committed
    else if leapMinute day ≤ d + w ∧ d ≤ leapMinute day then some .announcing else none
  | .leap day _ _, .announcing => if k = leapMinute day then some .committed else none
  | .service st t _, .armed => if t ≤ d then some (.done .ended) else if st ≤ d then some .announcing else none
  | .service _ t _, .announcing => if t ≤ d then some (.done .ended) else none
  | _, _ => none

/-- One slot's move at a composition (a SERVICE slot that ends loses its carried flag, R101). -/
def State.slotAtComposition (k d : Nat) (label : Option Label) (s : State) (n : SlotNo) : State :=
  match (s.slot n).bind (fun x => x.atComposition k d) with
  | none => s
  | some (.done o) => (s.moveSlot n (.done o) label).uncarry n
  | some new => s.moveSlot n new label

/-- R101: one slot's carried flag after the transitions. -/
def carryFlag (supplier : Option SlotNo) (n : SlotNo) (o : Option Slot) : Option Slot :=
  o.map (fun x =>
    match x.content with
    | .service .. => { x with carried := decide (supplier = some n) }
    | _ => x)

/-- R101: the carried flags name the slot that supplies the code for D. -/
def State.setCarried (s : State) (d : Nat) : State :=
  let supplier := serviceSupplier s.slots d
  { s with slots := Vector.ofFn (fun n => carryFlag supplier n s.slots[n]) }

/-- R97: the composition transitions of every slot, in a free order, then the carried flags. -/
def State.tableAtComposition (s : State) (k d : Nat) (label : Option Label) : State :=
  let s := (interleave s.freeNow allSlots []).foldl (State.slotAtComposition k d label) s.countFree
  s.setCarried d

/-- R102, R103: one slot's move at the boundary that begins minute m. -/
def State.slotAtBoundary (m : Nat) (label : Option Label) (s : State) (n : SlotNo) : State :=
  match s.slot n with
  | none => s
  | some x =>
    match x.content, x.state with
    | .zone _ _ _, .done _ => s
    | .zone e z _, _ => if e = m then (s.setZone z).moveSlot n (.done .applied) label else s
    | .leap day _ _, .armed => if leapMinute day = m then s.moveSlot n .committed label else s
    | .leap day _ _, .announcing => if leapMinute day = m then s.moveSlot n .committed label else s
    | .leap day _ _, .committed => if leapMinute day + 1 = m then s.moveSlot n (.done .applied) label else s
    | _, _ => s

/-- R102, R103: the table at the boundary that begins minute m, the slots in a free order. -/
def State.tableAtBoundary (s : State) (m : Nat) (label : Option Label) : State :=
  (interleave s.freeNow allSlots []).foldl (State.slotAtBoundary m label) s.countFree

/-! ### The reaction to a time load (5.5) -/

/-- R104: an active ZONE slot that the first two cases mark as ending at a load to minute n. -/
def Slot.zoneMarked (x : Slot) (n : Nat) : Bool :=
  match x.content, x.state with
  | .zone _ _ _, .committed => true
  | .zone e _ _, .armed => decide (e < n + 3)
  | .zone e _ _, .announcing => decide (e < n + 3)
  | _, _ => false

/-- R104: the active ZONE slots that end at a load to minute n, in order of effective minute: those marked, and those before a marked one. -/
def endingZones (slots : Vector (Option Slot) 8) (n : Nat) : List SlotNo :=
  let zones := allSlots.filterMap (fun k => (slots[k]).bind (fun x => x.zonePart.map (fun p => (p.1, k, x.zoneMarked n))))
  let ending := zones.filter (fun z => z.2.2 || zones.any (fun y => y.2.2 && decide (z.1 < y.1)))
  (sortByMinute ending).map (fun z => z.2.1)

/-- R105: the LEAP and SERVICE slots that end at a load to minute n. -/
def Slot.otherEnding (x : Slot) (n : Nat) : Bool :=
  match x.content, x.state with
  | .leap _ _ _, .committed => true
  | .leap day _ _, .armed => decide (leapMinute day < n + 3)
  | .leap day _ _, .announcing => decide (leapMinute day < n + 3)
  | .service _ t _, .armed => decide (t < n + 3)
  | .service _ t _, .announcing => decide (t < n + 3)
  | _, _ => false

/-- R104, R105: one ending slot at a load to minute n. -/
def State.endAtLoad (s : State) (n : Nat) (label : Option Label) (k : SlotNo) : State :=
  match s.slot k with
  | none => s
  | some x =>
    match x.content with
    | .zone e z _ =>
      let o := if x.state = .committed ∨ n + 3 ≤ e then SlotOutcome.missed else SlotOutcome.passed
      (s.setZone z).moveSlot k (.done o) label
    | .leap _ _ _ => s.moveSlot k (.done .missed) label
    | .service _ _ _ => (s.moveSlot k (.done .ended) label).uncarry k

/-- What a performed load does one after another: end a slot, or report TIME_LOADED. -/
inductive LoadAction where
  | endSlot (k : SlotNo)
  | report
deriving DecidableEq, Repr

/-- R104, R105, R36: the actions of a load to minute n: the ending ZONE slots in order of effective minute, with the other endings and the report anywhere among them (log 4). -/
def loadActions (slots : Vector (Option Slot) 8) (n choice : Nat) : List LoadAction :=
  let others := allSlots.filter (fun k => (slots[k]).any (fun x => x.otherEnding n))
  interleave choice (.report :: others.map .endSlot) ((endingZones slots n).map .endSlot)

end Sys2Proof.Machine
end

