-- ==== Sys2Proof/Machine/TimeScale.lean ====
section
/-! DEFINITION. Machine/TimeScale.lean: the label's advance, the pending load and its consideration at an epoch (02). -/

namespace Sys2Proof.Machine

/-- R20, R21, R33: the label one second on, from the COMMITTED LEAP slots, the range not considered. -/
def advance (slots : Vector (Option Slot) 8) (l : Label) : Label :=
  if l.second = 58 then
    if committedLeap slots .delete l.minute then { minute := l.minute + 1, second := 0 }
    else { l with second := 59 }
  else if l.second = 59 then
    if committedLeap slots .insert l.minute then { l with second := 60 }
    else { minute := l.minute + 1, second := 0 }
  else if 60 ≤ l.second then { minute := l.minute + 1, second := 0 }
  else { l with second := l.second + 1 }

/-- R22: the advanced label, absent past the end of the range. -/
def advanceInRange (slots : Vector (Option Slot) 8) (l : Label) : Option Label :=
  if (advance slots l).minute ≤ lastMinute then some (advance slots l) else none

/-- R20: the next label; absent while UNSET and where the next epoch is the range end (R43). -/
def State.nextLabel (s : State) : Option Label := s.time.label.bind (advanceInRange s.slots)

/-- R31: a load request. -/
def State.requestLoad (s : State) (source : LoadSource) (target : Label) : State :=
  { s with time := { s.time with pending := some { source := source, target := target } } }

/-- R33: the label that a word's own date and time name. -/
def TimeWord.label (w : TimeWord) : Label :=
  { minute := minuteNumber (dayOfDate w.date) w.hour w.minute, second := w.second }

/-- R33: the word's own next-epoch label. -/
def TimeWord.nextEpochLabel (slots : Vector (Option Slot) 8) (side : Side) (w : TimeWord) : Label :=
  match side with
  | .next => w.label
  | .current => advance slots w.label

/-- R33: the target of a reference load, absent where no load is requested (without DATE and with no next label, log 32). -/
def State.loadTarget (s : State) (w : TimeWord) (side : Side) (mask : Mask) : Option Label :=
  let own := w.nextEpochLabel s.slots side
  if mask.date then some own
  else
    s.nextLabel.map (fun n =>
      { minute := minuteNumber (dayOfMinute n.minute)
          (if mask.hour then hourOfMinute own.minute else hourOfMinute n.minute)
          (if mask.min then minuteOfHour own.minute else minuteOfHour n.minute),
        second := own.second })

/-- R34: why a held load is declined, the first reason in the order of the list (log 15). -/
def State.declineReason (s : State) (p : PendingLoad) : Option DeclineReason :=
  if p.source = .host ∧ (s.disc.state = .track ∨ s.disc.state = .holdover) then some .state
  else if dayInRange (dayOfMinute p.target.minute) = false then some .range
  else if p.target.second = 60 then some .leap
  else none

/-- R80: the expired flag becomes CLEAR. -/
def State.clearExpired (s : State) : State := { s with disc := { s.disc with expired := false } }

/-- R34, R80: a load from HOST clears the expired flag. -/
def State.clearIfHost (s : State) (source : LoadSource) : State :=
  match source with
  | .host => s.clearExpired
  | .reference _ => s

/-- R20, R22: the label becomes what the advance delivers; at the range end TIME_END is posted with the last label. -/
def State.advanceLabel (s : State) : State :=
  match s.time.label with
  | none => s
  | some l =>
    match advanceInRange s.slots l with
    | some n => { s with time := { s.time with label := some n } }
    | none => { s with time := { s.time with label := none } }.post (.timeEnd l) none

/-- R125: a performed load marks the record in NEXT. -/
def State.markStale (s : State) : State :=
  { s with nextRecord := s.nextRecord.map (fun r => { r with stale := true }) }

/-- One action of a performed load. -/
def State.loadAction (p : PendingLoad) (s : State) : LoadAction → State
  | .endSlot k => s.endAtLoad p.target.minute (some p.target) k
  | .report => s.post (.timeLoaded p.source .loaded p.target) (some p.target)

/-- R34, R36, R104, R105, R125: a performed load. -/
def State.performLoad (s : State) (p : PendingLoad) : State :=
  let s' := { s with time := { s.time with label := some p.target } }
  let actions := loadActions s.slots p.target.minute s.freeNow
  ((actions.foldl (State.loadAction p) s'.countFree).markStale).clearIfHost p.source

/-- What the time scale did at an epoch. -/
structure TimeStep where
  state : State
  loaded : Bool
  rangeEnd : Bool

/-- R20, R22: an epoch at which no load is performed. -/
def State.plainAdvance (s : State) : TimeStep :=
  { state := s.advanceLabel, loaded := false, rangeEnd := s.time.isSet && s.nextLabel.isNone }

/-- R34: a declined load: the label advances, and TIME_LOADED carries the label then delivered. At the range end it is posted before TIME_END, which is the model's choice (log 41). -/
def State.declineLoad (s : State) (p : PendingLoad) (reason : DeclineReason) : TimeStep :=
  let s' := s.post (.timeLoaded p.source (.declined reason) p.target) s.nextLabel
  { state := s'.advanceLabel, loaded := false, rangeEnd := s.time.isSet && s.nextLabel.isNone }

/-- R34, R36: a load found unchanged: the label advances to that value; from HOST it is reported and clears the expired flag. -/
def State.unchangedLoad (s : State) (p : PendingLoad) : TimeStep :=
  let s' := s.advanceLabel
  match p.source with
  | .host =>
    { state := (s'.post (.timeLoaded .host .unchanged p.target) (some p.target)).clearExpired,
      loaded := false, rangeEnd := false }
  | .reference _ => { state := s', loaded := false, rangeEnd := false }

/-- R20, R31, R34: the time scale at an epoch: a pending load is considered in place of the advance, and is absent afterwards. -/
def State.timeStep (s : State) : TimeStep :=
  let s' := { s with time := { s.time with pending := none } }
  match s.time.pending with
  | none => s'.plainAdvance
  | some p =>
    match s.declineReason p with
    | some reason => s'.declineLoad p reason
    | none =>
      if s.nextLabel = some p.target then s'.unchangedLoad p
      else { state := s'.performLoad p, loaded := true, rangeEnd := false }

end Sys2Proof.Machine
end

