-- ==== Sys2Proof/Machine/Discipline.lean ====
section
/-! DEFINITION. Machine/Discipline.lean: the reference selector and the discipline controller (04). -/

namespace Sys2Proof.Machine

/-- The label of the current second, or absent while UNSET: the notice label of a change made outside an epoch. -/
def State.now (s : State) : Option Label := s.time.label

/-- R83: the discipline state changes and DISC_STATE is posted. -/
def State.setDisc (s : State) (d : Discipline) (cause : DiscCause) (label : Option Label) : State :=
  ({ s with disc := d }).post (.discState s.disc.state d.state s.selector.selected cause) label

/-! ### The reference selector -/

/-- R61: r is better than the best found so far: GOOD, and of a lower priority value (the lower number wins a tie by coming first). -/
def betterRef (refs : Vector Reference 3) (best : Option RefNo) (r : RefNo) : Option RefNo :=
  if (refs[r]).state = .good then
    match best with
    | none => some r
    | some b => if (refs[r]).priority < (refs[b]).priority then some r else some b
  else best

/-- R61: the best GOOD reference. -/
def bestGood (refs : Vector Reference 3) : Option RefNo := allRefs.foldl (betterRef refs) none

/-- R61: the selected reference that the mode names. -/
def choose (refs : Vector Reference 3) (sel : Selector) : Option RefNo :=
  match sel.mode with
  | .autoRevert => bestGood refs
  | .autoHold =>
    match sel.selected with
    | some r => if (refs[r]).state = .good then some r else bestGood refs
    | none => bestGood refs
  | .force r => if (refs[r]).state = .good then some r else none

/-- R68: the discipline controller takes a change of the selected reference, which the selector already holds. -/
def State.takeSelection (s : State) (prev new : Option RefNo) (label : Option Label) : State :=
  let d := { s.disc with excursions := 0 }
  match s.disc.state, new with
  | .free, some _ =>
    s.setDisc { d with state := .acquire, entrySecond := true, lockRun := 0 } .selected label
  | .free, none => { s with disc := d }
  | .acquire, none =>
    s.setDisc { d with state := .free, lockRun := 0, entrySecond := false } .selectionLost label
  | .acquire, some _ => { s with disc := { d with lockRun := 0 } }
  | .track, none =>
    s.setDisc { d with state := .holdover, elapsed := 0, h1Passed := false, holdoverRef := prev }
      .selectionLost label
  | .track, some _ => { s with disc := { d with firstAwaited := true } }
  | .holdover, some _ => { s with disc := { d with firstAwaited := true } }
  | .holdover, none => { s with disc := { d with firstAwaited := false } }

/-- R61, R62: the selector evaluates; a change posts SELECT and goes to the discipline controller. -/
def State.evaluate (s : State) (cause : SelCause) (label : Option Label) : State :=
  let new := choose s.refs s.selector
  if new = s.selector.selected then s
  else
    let prev := s.selector.selected
    let s := { s with selector := { s.selector with selected := new } }
    (s.post (.select prev new s.selector.mode cause) label).takeSelection prev new label

/-- R57: a reference's state has changed from prev, as x says: REF_STATE, then the selector evaluates. -/
def State.changeRef (s : State) (r : RefNo) (prev : RefState) (x : Reference) (cause : RefCause)
    (label : Option Label) : State :=
  ((s.setRef r x).post (.refState r prev x.state cause) label).evaluate .state label

/-! ### Captures -/

/-- An integer clamped to -j..j (00, Ranges and arithmetic). -/
def clamp (j : Nat) (e : Int) : Int := max (-(j : Int)) (min (j : Int) e)

/-- R70: the correction of a capture in TRACK. -/
def trackCorrection (set : DiscSettings) (e : Int) : Int := if e.natAbs ≤ set.b then 0 else clamp set.j e

/-- R75: the correction of a slewing capture. -/
def slewCorrection (set : DiscSettings) (e : Int) : Int := if e.natAbs ≤ set.b then 0 else e

/-- R65: the running length that a correction asks for. -/
def askedLength (c : Int) : Nat := ((nominalSecond : Int) + c).toNat

/-- R65: whether a correction ends the running second at once. -/
def State.endsAtOnce (s : State) (c : Int) : Bool := decide (askedLength c ≤ s.counter.phase)

/-- R65: a correction sets the running length; one already passed makes the phase count the length. -/
def State.correct (s : State) (c : Int) : State :=
  { s with counter := { s.counter with length := max (askedLength c) s.counter.phase } }

/-- R65, R83: the correction that is applied. -/
def State.appliedOf (s : State) (c : Int) : Int :=
  if s.endsAtOnce c then (s.counter.phase : Int) - nominalSecond else c

/-- A state and whether the running second has ended at once in it (R65). -/
structure CaptureStep where
  state : State
  ended : Bool

/-- R65: a correction taken in a capture. -/
def State.corrected (s : State) (c : Int) : CaptureStep := { state := s.correct c, ended := s.endsAtOnce c }

/-- A capture that applies no correction. -/
def State.uncorrected (s : State) : CaptureStep := { state := s, ended := false }

/-- R69: a capture met in FREE enters ACQUIRE; its second becomes the entry second. -/
def State.acquireFromFree (s : State) : State :=
  s.setDisc { s.disc with state := .acquire, entrySecond := true } .selected s.now

/-- R73: a first capture beyond S enters ACQUIRE; its second becomes the entry second, and a move from HOLDOVER ends the timers. -/
def State.acquireAfresh (s : State) : State :=
  let d : Discipline := { s.disc with state := .acquire, entrySecond := true, lockRun := 0, excursions := 0 }
  match s.disc.state with
  | .holdover => s.setDisc { d with elapsed := 0, h1Passed := false } .offset s.now
  | _ => s.setDisc d .offset s.now

/-- R55, R71: the excursion rule rejects the selected reference. -/
def State.rejectRef (s : State) (r : RefNo) : State :=
  let x := s.ref r
  let x' : Reference :=
    { x with
      state := .rejected, goodRun := 0, faultCount := 0, missCount := 0,
      obs := { x.obs with excursion := true }, jitterBase := none }
  s.changeRef r x.state x' .excursion s.now

/-- R70, R71: a capture in TRACK that is not the first after a selection change. -/
def State.trackCapture (s : State) (r : RefNo) (e : Int) : CaptureStep :=
  let set := s.disc.settings
  if e.natAbs ≤ set.s then
    ({ s with disc := { s.disc with excursions := 0 } }).corrected (trackCorrection set e)
  else if s.disc.excursions < 2 then
    ({ s with disc := { s.disc with excursions := s.disc.excursions + 1 } }).corrected (trackCorrection set e)
  else
    (({ s with disc := { s.disc with excursions := 0 } }).rejectRef r).uncorrected

/-- R73: the first capture after a selection change, in TRACK or HOLDOVER. -/
def State.firstCapture (s : State) (e : Int) : CaptureStep :=
  let set := s.disc.settings
  let s := { s with disc := { s.disc with firstAwaited := false } }
  if e.natAbs ≤ set.s then
    match s.disc.state with
    | .holdover =>
      (s.setDisc { s.disc with state := .track, elapsed := 0, h1Passed := false } .resumed s.now).corrected
        (trackCorrection set e)
    | _ => s.corrected (trackCorrection set e)
  else s.acquireAfresh.uncorrected

/-- R76: a worded capture in ACQUIRE asks the time scale for a load. -/
def State.askLoad (s : State) (r : RefNo) (c : Capture) (mask : Mask) : State :=
  match c.word with
  | none => s
  | some w =>
    match s.loadTarget w c.side mask with
    | none => s
    | some target => s.requestLoad (.reference r) target

/-- R74: a step. That the notice label of STEP is the current second's is the model's reading (log 31). -/
def State.stepCapture (s : State) (r : RefNo) (c : Capture) (mask : Mask) : CaptureStep :=
  let s' := { s with disc := { s.disc with lockRun := 0, stepped := true } }
  let s' := s'.post (.step r c.offset c.offset (s.appliedOf c.offset) c.label) s.now
  (s'.askLoad r c mask).corrected c.offset

/-- R75: the lock run after a slewing capture. -/
def lockRunAfter (d : Discipline) (e : Int) (first : Bool) : Nat :=
  if first ∧ e.natAbs ≤ d.settings.w then min 4 (d.lockRun + 1) else 0

/-- R77: the lock check. -/
def State.checkLock (s : State) : State :=
  if s.disc.lockRun = 4 ∧ s.time.isSet then
    s.setDisc { s.disc with state := .track, expired := false, firstAwaited := false, excursions := 0, lockRun := 0 }
      .locked s.now
  else s

/-- R75, R76, R77: a slewing capture. -/
def State.slewCapture (s : State) (r : RefNo) (c : Capture) (mask : Mask) (first : Bool) : CaptureStep :=
  let corr := slewCorrection s.disc.settings c.offset
  let s := { s with disc := { s.disc with lockRun := lockRunAfter s.disc c.offset first } }
  ((s.askLoad r c mask).checkLock).corrected corr

/-- R72, R74 to R77: a capture in ACQUIRE. -/
def State.acquireCapture (s : State) (r : RefNo) (c : Capture) (mask : Mask) (first : Bool) : CaptureStep :=
  if s.disc.entrySecond then s.uncorrected
  else if s.disc.settings.j < c.offset.natAbs then s.stepCapture r c mask
  else s.slewCapture r c mask first

/-- R69: the discipline controller takes a capture handed on (HOLDOVER with no first capture awaited cannot meet one and applies none, log 28). -/
def State.takeCapture (s : State) (r : RefNo) (c : Capture) (mask : Mask) (first : Bool) : CaptureStep :=
  match s.disc.state with
  | .free => s.acquireFromFree.uncorrected
  | .acquire => s.acquireCapture r c mask first
  | .track => if s.disc.firstAwaited then s.firstCapture c.offset else s.trackCapture r c.offset
  | .holdover => if s.disc.firstAwaited then s.firstCapture c.offset else s.uncorrected

/-! ### Epochs -/

/-- R82: the time quality code, absent where none is given. -/
def State.qualityCode (s : State) : Option Nat :=
  if s.time.isSet then
    match s.disc.state with
    | .track => some 0
    | .holdover => if s.disc.elapsed ≤ s.disc.settings.h1 then some 1 else some 2
    | .free => some 3
    | .acquire => none
  else none

/-- R85: a staged set becomes the set in force. -/
def State.discSettingsInForce (s : State) : State :=
  match s.disc.staged with
  | none => s
  | some set => { s with disc := { s.disc with settings := set, staged := none } }

/-- R78: the H1 check on the elapsed count held. That the notice label is the epoch's is the model's reading (log 45). -/
def State.checkH1 (s : State) (label : Option Label) : State :=
  if s.disc.settings.h1 ≤ s.disc.elapsed ∧ s.disc.h1Passed = false then
    ({ s with disc := { s.disc with h1Passed := true } }).post
      (.holdoverLimit .h1 s.disc.elapsed s.disc.holdoverRef) label
  else s

/-- R79: the H2 check on the elapsed count held (the notice reports the count that reached the limit, log 13, under the epoch's label, log 45). -/
def State.checkH2 (s : State) (label : Option Label) : State :=
  if s.disc.settings.h2 ≤ s.disc.elapsed then
    (s.setDisc { s.disc with state := .free, expired := true, elapsed := 0, h1Passed := false } .expired label).post
      (.holdoverLimit .h2 s.disc.elapsed s.disc.holdoverRef) label
  else s

/-- R78, R79: the holdover timers at an epoch. enteredHere says that HOLDOVER was entered at this very epoch, which does not raise the count. -/
def State.holdoverTick (s : State) (enteredHere : Bool) (label : Option Label) : State :=
  if s.disc.state = .holdover ∧ enteredHere = false then
    let s := { s with disc := { s.disc with elapsed := s.disc.elapsed + 1 } }
    (s.checkH1 label).checkH2 label
  else s

/-- R81: the discipline controller at the epoch of the range end. -/
def State.rangeEndFree (s : State) (label : Option Label) : State :=
  let d : Discipline :=
    { s.disc with
      state := .free, lockRun := 0, excursions := 0, elapsed := 0, h1Passed := false,
      entrySecond := false, firstAwaited := false }
  if s.disc.state = .free then { s with disc := d } else s.setDisc d .rangeEnd label

end Sys2Proof.Machine
end

