-- ==== Sys2Proof/Machine/Operands.lean ====
section
/-! DEFINITION. Machine/Operands.lean: how the fields of a command are read (R173, R191), and how a reference word is read (R45). -/

namespace Sys2Proof.Machine

/-- A decimal digit. -/
def isDigit (c : Char) : Bool := decide (48 ≤ c.toNat) && decide (c.toNat ≤ 57)

/-- The number that decimal digits spell. -/
def digitsVal (t : Text) : Nat := t.foldl (fun n c => 10 * n + (c.toNat - 48)) 0

/-- Exactly w digits. -/
def readFixed (w : Nat) (t : Text) : Option Nat :=
  if t.length = w ∧ t.all isDigit then some (digitsVal t) else none

/-- R191: a number, 1 to 9 digits. -/
def readNumber (t : Text) : Option Nat :=
  if 1 ≤ t.length ∧ t.length ≤ 9 ∧ t.all isDigit then some (digitsVal t) else none

/-- R191: a signed number; the '+' may be left out. -/
def readSigned : Text → Option Int
  | '+' :: t => (readNumber t).map Int.ofNat
  | '-' :: t => (readNumber t).map (fun n => -Int.ofNat n)
  | t => (readNumber t).map Int.ofNat

/-- R191: eight digits as a date, valid or not. -/
def readDate (t : Text) : Option Date :=
  (readFixed 8 t).map (fun n => { year := n / 10000, month := n / 100 % 100, day := n % 100 })

/-- The day number of a date field that names a valid date in the time scale's range (R24, R22). -/
def readDay (t : Text) : Option Nat :=
  match readDate t with
  | some d => if d.valid && dayInRange (dayOfDate d) then some (dayOfDate d) else none
  | none => none

/-- R191, R24: a minute field that names a valid date and time in the range, as a minute number. -/
def readMinute (t : Text) : Option Nat :=
  match readDay (t.take 8), readFixed 4 (t.drop 8) with
  | some day, some n =>
    if n / 100 ≤ 23 ∧ n % 100 ≤ 59 then some (minuteNumber day (n / 100) (n % 100)) else none
  | _, _ => none

/-- R32: a date and a time field as a label: the time is valid with the second 0..59 and the day lies in the range. -/
def readSett (date time : Text) : Option Label :=
  match readDay date, readFixed 6 time with
  | some day, some n =>
    if n / 10000 ≤ 23 ∧ n / 100 % 100 ≤ 59 ∧ n % 100 ≤ 59 then
      some { minute := minuteNumber day (n / 10000) (n / 100 % 100), second := n % 100 }
    else none
  | _, _ => none

/-- A name from a list of things that can be named. -/
def readName {α : Type} (text : α → Text) (all : List α) (t : Text) : Option α :=
  all.find? (fun a => text a == t)

/-- R191: a mask, each letter at most once, in any order. -/
def readMask (t : Text) : Option Mask :=
  if t.all (fun c => c == 'S' || c == 'M' || c == 'H' || c == 'D') ∧ t.Nodup ∧ t ≠ [] then
    some { sec := t.contains 'S', min := t.contains 'M', hour := t.contains 'H', date := t.contains 'D' }
  else none

/-- A text cut at every separator. -/
def splitOn (sep : Char) : Text → List Text
  | [] => [[]]
  | c :: t =>
    match splitOn sep t with
    | [] => [[]]
    | w :: ws => if c == sep then [] :: w :: ws else (c :: w) :: ws

/-- R191, R142: a shape, eight numbers separated by '/', each 0..1000. -/
def readShape (t : Text) : Option (Vector Nat 8) :=
  match (splitOn '/' t).map readNumber with
  | [some a, some b, some c, some d, some e, some f, some g, some h] =>
    if [a, b, c, d, e, f, g, h].all (fun n => decide (n ≤ 1000)) then some #v[a, b, c, d, e, f, g, h] else none
  | _ => none

/-- A reference number 1..3. -/
def readRef (t : Text) : Option RefNo :=
  match readNumber t with
  | some 1 => some 0
  | some 2 => some 1
  | some 3 => some 2
  | _ => none

/-- A slot number 1..8. -/
def readSlot (t : Text) : Option SlotNo :=
  match readNumber t with
  | some n => if h : n - 1 < 8 ∧ 1 ≤ n then some ⟨n - 1, h.1⟩ else none
  | none => none

/-- A chain number. -/
def readChain (t : Text) : Option Chain :=
  match readNumber t with
  | some 1 => some .one
  | some 2 => some .two
  | _ => none

/-- A number within lo..hi. -/
def readWithin (lo hi : Nat) (t : Text) : Option Nat :=
  match readNumber t with
  | some n => if lo ≤ n ∧ n ≤ hi then some n else none
  | none => none

/-- R28: an offset, -720..+840 and a multiple of 15. -/
def readOffset (t : Text) : Option Int :=
  match readSigned t with
  | some z => if -720 ≤ z ∧ z ≤ 840 ∧ z % 15 = 0 then some z else none
  | none => none

/-- R173: the field at a position numbered from 1; an empty field is absent. -/
def fieldAt (fields : List Text) (i : Nat) : Option Text :=
  match fields[i - 1]? with
  | some [] => none
  | f => f

/-- R173: no field stands at a position beyond n (an absent field there is no field, log 18). -/
def noneBeyond (fields : List Text) (n : Nat) : Bool := (fields.drop n).all List.isEmpty

/-- What an optional field gives: absent, a value, or a text that cannot be read as a value in its range. -/
inductive Opt (α : Type) where
  | absent
  | value (a : α)
  | bad
deriving DecidableEq, Repr

/-- R173: an optional field read in one way. -/
def optField {α : Type} (fields : List Text) (i : Nat) (read : Text → Option α) : Opt α :=
  match fieldAt fields i with
  | none => .absent
  | some t =>
    match read t with
    | some a => .value a
    | none => .bad

/-- The field could be read, or is absent. -/
def Opt.fine {α : Type} : Opt α → Bool
  | .bad => false
  | _ => true

/-- The value given, or the one held. -/
def Opt.or {α : Type} (o : Opt α) (held : α) : α :=
  match o with
  | .value a => a
  | _ => held

/-- The value given, if any. -/
def Opt.get? {α : Type} : Opt α → Option α
  | .value a => some a
  | _ => none

/-- A required field read in one way. -/
def reqField {α : Type} (fields : List Text) (i : Nat) (read : Text → Option α) : Option α :=
  match fieldAt fields i with
  | none => none
  | some t => read t

/-! ### The reference time word (R45) -/

/-- R45: the leap indicator. -/
def readLeapMark : Char → Option LeapMark
  | '0' => some .nothing
  | '+' => some .inserted
  | '-' => some .deleted
  | _ => none

/-- R45: the fifteen characters after '#' of a completed word, if they are a valid word. -/
def readWord (t : Text) : Option TimeWord :=
  match readDate (t.take 8), readFixed 6 ((t.drop 8).take 6), t.drop 14 with
  | some d, some n, [c] =>
    match readLeapMark c with
    | some m =>
      if d.valid ∧ n / 10000 ≤ 23 ∧ n / 100 % 100 ≤ 59 ∧ n % 100 ≤ 60 then
        some { date := d, hour := n / 10000, minute := n / 100 % 100, second := n % 100, leap := m }
      else none
    | none => none
  | _, _, _ => none

end Sys2Proof.Machine
end

