-- ==== Sys2Proof/Machine/Capture.lean ====
section
/-! DEFINITION. Machine/Capture.lean: the reference capture unit (03): edges, words, and the review of each second. -/

namespace Sys2Proof.Machine

/-! ### Capturing an edge -/

/-- R42: the side of the split for u = p - d. -/
def sideOf (u : Int) : Side := if u < 5000000 then .current else .next

/-- R42: the offset e for u = p - d. -/
def offsetOf (u : Int) : Int := if u < 5000000 then u else u - nominalSecond

/-- R43: the edge's label. The rule's last sentence (no label where the next epoch is the range end) names no side; the model applies it to an edge compared with the next epoch, and one compared with the current second keeps the label of that second, which is the model's choice (log 48). -/
def State.edgeLabel (s : State) : Side → Option Label
  | .current => s.now
  | .next => s.nextLabel

/-- R47: the word agrees with the label over the mask. -/
def agrees (m : Mask) (w : TimeWord) (l : Label) : Bool :=
  (!m.sec || w.second == l.second) && (!m.min || w.minute == minuteOfHour l.minute) &&
    (!m.hour || w.hour == hourOfMinute l.minute) &&
    (!m.date || decide (w.date = dateOfDay (dayOfMinute l.minute)))

/-- R47: the agreement result. A capture with a label but no word is not compared; that it is recorded as UNCHECKED is the model's choice (log 42). -/
def agreementOf (m : Mask) (word : Option TimeWord) (label : Option Label) : Agreement :=
  match word, label with
  | some w, some l => if agrees m w l then .agree else .disagree
  | _, _ => .unchecked

/-- R41 to R47: the capture record of an edge latched now. -/
def State.captureOf (s : State) (x : Reference) : Capture :=
  let u : Int := (s.counter.phase : Int) - x.delay
  let label := s.edgeLabel (sideOf u)
  { phase := s.counter.phase, offset := offsetOf u, side := sideOf u, label := label,
    word := x.held, agreement := agreementOf x.mask x.held label }

/-- R48: the leap indicator check of a capture. -/
def State.checkLeapMark (s : State) (r : RefNo) (state : RefState) (c : Capture) : State :=
  match c.word, c.label with
  | some w, some l =>
    let day := monthEndOf (dayOfMinute l.minute)
    if state = .good ∧ w.leap ≠ .nothing ∧ activeLeapOn s.slots day = false then
      s.post (.leapMismatch r w.leap day) (some l)
    else s
  | _, _ => s

/-- R49: the observations after a capture. -/
def SecondObs.record (o : SecondObs) (c : Capture) : SecondObs :=
  { o with
    edges := min 2 (o.edges + 1),
    offset := if o.edges = 0 then some c.offset else o.offset,
    wordMissing := o.wordMissing || c.word.isNone,
    disagreed := o.disagreed || decide (c.agreement = .disagree) }

/-- R46, R49: the reference after a capture. -/
def Reference.capture (x : Reference) (c : Capture) : Reference :=
  { x with held := none, obs := x.obs.record c, last := some c }

/-- R49: one edge event of a reference that is not OFF, in the rule's order. -/
def State.edgeEvent (s : State) (r : RefNo) : CaptureStep :=
  let x := s.ref r
  let c := s.captureOf x
  let first := decide (x.obs.edges = 0)
  let s := (s.checkLeapMark r x.state c).setRef r (x.capture c)
  if s.selector.selected = some r then s.takeCapture r c x.mask first else s.uncorrected

/-! ### Words -/

/-- R45: a completed word, or a failed one, ends: a valid word becomes the held word, any other discards it. -/
def Reference.endWord (x : Reference) (word : Option Text) : Reference :=
  { x with assembly := none, held := word.bind readWord }

/-- R44: the word receiver of an enabled reference takes a character. -/
def Reference.takeChar (x : Reference) (ch : RxChar) : Reference :=
  match x.assembly with
  | none => if ch.code = '#' ∧ ch.framingError = false then { x with assembly := some [] } else x
  | some t =>
    if ch.framingError then x.endWord none
    else if ch.code = '#' then { x.endWord none with assembly := some [] }
    else if ch.code = '\r' then (if t.length = 15 then x.endWord (some t) else x.endWord none)
    else if t.length < 15 then { x with assembly := some (t ++ [ch.code]) }
    else x.endWord none

/-- R44, R187: reference r takes words. -/
def State.takesWords (s : State) (r : RefNo) : Bool := !s.resetHeld && decide ((s.ref r).state ≠ .off)

/-- R44: a character reaches the word receiver of reference r; that of an OFF reference ignores it. Whether it is OFF is asked when the stop bit ends, also for a character whose start bit fell before an enable, which is the model's choice (log 46). -/
def State.receiveWordChar (s : State) (r : RefNo) (ch : RxChar) : State :=
  if s.takesWords r then s.setRef r ((s.ref r).takeChar ch) else s

/-! ### The review of each second -/

/-- R38: L, the number of MISSED seconds that lose a reference. -/
def LossMode.limit : LossMode → Nat
  | .normal => 3
  | .extended => 30

/-- R51: the offset differs from a present jitter base by more than W. -/
def Reference.jitters (x : Reference) (w : Nat) : Bool :=
  match x.jitterBase, x.obs.offset with
  | some b, some e => decide (w < (e - b).natAbs)
  | _, _ => false

/-- R51: the class of the second just ended under the W in force during it. -/
def Reference.classify (x : Reference) (w : Nat) : Review :=
  if x.obs.edges = 0 then .missed
  else if x.obs.excursion then .faulty .excursion
  else if 2 ≤ x.obs.edges then .faulty .multiple
  else if x.obs.wordMissing then .faulty .noword
  else if x.obs.disagreed then .faulty .disagree
  else if x.jitters w then .faulty .jitter
  else .good

/-- A reference and the cause of its change of state, if it changed. -/
abbrev RefMove := Reference × Option RefCause

/-- R54: the reference becomes LOST. -/
def Reference.lose (x : Reference) : RefMove :=
  ({ x with state := .lost, goodRun := 0, faultCount := 0, missCount := 0 }, some .misses)

/-- R54: a MISSED second raises the miss count, and the loss check is made again. -/
def Reference.miss (x : Reference) : RefMove :=
  if x.lossMode.limit ≤ x.missCount + 1 then x.lose else ({ x with missCount := x.missCount + 1 }, none)

/-- R53, R54: how the class of a second moves counters and state once the first loss check has passed. -/
def Reference.moveBy (x : Reference) (cls : Review) : RefMove :=
  match x.state, cls with
  | .lost, .good => ({ x with state := .qualifying, goodRun := 1 }, some .firstGood)
  | .qualifying, .good =>
    if 10 ≤ x.goodRun + 1 then
      ({ x with state := .good, goodRun := 0, faultCount := 0, missCount := 0 }, some .qualified)
    else ({ x with goodRun := x.goodRun + 1, missCount := 0 }, none)
  | .qualifying, .faulty _ => ({ x with goodRun := 0, missCount := 0 }, none)
  | .qualifying, .missed => x.miss
  | .good, .good => ({ x with faultCount := 0, missCount := 0 }, none)
  | .good, .faulty _ =>
    if 3 ≤ x.faultCount + 1 then
      ({ x with state := .rejected, goodRun := 0, faultCount := 0, missCount := 0 }, some .faults)
    else ({ x with faultCount := x.faultCount + 1, missCount := 0 }, none)
  | .good, .missed => x.miss
  | .rejected, .good =>
    if 60 ≤ x.goodRun + 1 then
      ({ x with state := .qualifying, goodRun := 0, missCount := 0 }, some .recovered)
    else ({ x with goodRun := x.goodRun + 1, missCount := 0 }, none)
  | .rejected, .faulty _ => ({ x with goodRun := 0, missCount := 0 }, none)
  | .rejected, .missed => x.miss
  | _, _ => (x, none)

/-- R54: the loss check is made for QUALIFYING, GOOD and REJECTED references. -/
def RefState.canLose : RefState → Bool
  | .qualifying | .good | .rejected => true
  | _ => false

/-- R54: the loss check on the miss count held, then the class moves the counters. -/
def Reference.move (x : Reference) (cls : Review) : RefMove :=
  if x.state.canLose ∧ x.lossMode.limit ≤ x.missCount then x.lose else x.moveBy cls

/-- R52: the jitter base after a review of this class; applied is the correction applied to the ended second. -/
def nextJitterBase (cls : Review) (offset : Option Int) (applied : Int) : Option Int :=
  match cls with
  | .good => offset.map (fun e => e - applied)
  | _ => none

/-- R50 to R54: the review of one reference's second. -/
def Reference.reviewed (x : Reference) (w : Nat) (applied : Int) : RefMove :=
  let cls := x.classify w
  let m := x.move cls
  ({ m.1 with
     jitterBase := nextJitterBase cls x.obs.offset applied,
     review := some cls, obs := SecondObs.empty }, m.2)

/-- R50: the epoch after an enable, at which the reference is not reviewed. -/
def Reference.firstEpoch (x : Reference) : Reference := { x with obs := SecondObs.empty, reviewPending := true }

/-- R50: the epoch that ends a stepped second. -/
def Reference.skip (x : Reference) : Reference :=
  { x with review := some .skipped, obs := SecondObs.empty, jitterBase := none }

/-- R50, R57: the review of one reference at an epoch. -/
def State.review (s : State) (r : RefNo) (stepped : Bool) (w : Nat) (applied : Int) (label : Option Label) : State :=
  let x := s.ref r
  if x.state = .off then s
  else if x.reviewPending = false then s.setRef r x.firstEpoch
  else if stepped then s.setRef r x.skip
  else
    match x.reviewed w applied with
    | (x', none) => s.setRef r x'
    | (x', some cause) => s.changeRef r x.state x' cause label

/-! ### Enable and disable -/

/-- R56: an enable. -/
def Reference.enabled (x : Reference) : Reference :=
  { x with
    state := .lost, goodRun := 0, faultCount := 0, missCount := 0, held := none,
    assembly := none, obs := SecondObs.empty, jitterBase := none, reviewPending := false }

/-- R56: a disable. -/
def Reference.disabled (x : Reference) : Reference :=
  { x with
    state := .off, goodRun := 0, faultCount := 0, missCount := 0, held := none,
    assembly := none, obs := SecondObs.empty, jitterBase := none }

/-- R40, R56: setting enable; the state it already has changes nothing. -/
def State.setEnable (s : State) (r : RefNo) (on : Bool) : State :=
  let x := s.ref r
  if x.state = .off then
    (if on then s.changeRef r .off x.enabled .enabled s.now else s)
  else
    (if on then s else s.changeRef r x.state x.disabled .disabled s.now)

end Sys2Proof.Machine
end

