-- ==== Sys2Proof/Machine/Changeover.lean ====
section
/-! DEFINITION. Machine/Changeover.lean: the maintenance mode, the chains and the changeover (8.1, 8.5). -/

namespace Sys2Proof.Machine

/-- R19: the label of a minute boundary. -/
def isBoundary : Option Label → Bool
  | some l => l.second == 0
  | none => false

/-! ### Maintenance mode -/

/-- R150: the pending change that a request leaves. -/
def maintenanceRequest (inForce requested : MaintMode) : Option PendingMaint :=
  if requested = inForce then none
  else
    match requested with
    | .inhibit => some { mode := .inhibit, due := .nextEpoch }
    | _ => some { mode := requested, due := .nextBoundary }

/-- R151: a pending change is due at an epoch. -/
def PendingMaint.isDue (p : PendingMaint) (label : Option Label) : Bool :=
  match p.due with
  | .nextEpoch => true
  | .nextBoundary => isBoundary label

/-- R151: a due maintenance change comes into force at an epoch. -/
def State.maintenanceInForce (s : State) (label : Option Label) : State :=
  match s.chains.pendingMaintenance with
  | none => s
  | some p =>
    if p.isDue label then
      { s with chains := { s.chains with maintenance := p.mode, pendingMaintenance := none } }
    else s

/-! ### Chain-ready inputs -/

/-- R161: the negation of a PREPARING changeover's target cancels it. That the notice label of CHANGEOVER is the current second's is the model's reading (log 31). -/
def State.cancelFor (s : State) (c : Chain) (level : Level) : State :=
  match s.chains.changeover, level with
  | .preparing t _, .low =>
    if t = c then
      ({ s with chains := { s.chains with changeover := .steady } }).post (.changeover .cancelled t) s.now
    else s
  | _, _ => s

/-- R161: a change of level on a chain-ready input. -/
def State.readyChange (s : State) (c : Chain) (level : Level) : State :=
  let s := { s with chains := { s.chains with ready := s.chains.ready.set c level } }
  (s.post (.chainReady c level) s.now).cancelFor c level

/-! ### The boundary -/

/-- R162: the verdict run after a verdict. -/
def runAfter (run : Nat) : Verdict → Nat
  | .bad => min 15 (run + 1)
  | .absent => min 15 (run + 1)
  | .good => 0
  | .notChecked => run

/-- R162: a verdict handed over is counted. -/
def State.countVerdict (s : State) (v : Verdict) : State :=
  { s with chains := { s.chains with verdictRun := runAfter s.chains.verdictRun v } }

/-- R163: the auto-arm state after a completed changeover. -/
def armAfter (arm : AutoArm) : Origin → AutoArm
  | .auto => .spent
  | .manual => arm

/-- R163: a PREPARING changeover is decided. That the notice label is the boundary's is the model's reading (log 45). -/
def State.decideChangeover (s : State) (label : Option Label) : State :=
  match s.chains.changeover with
  | .steady => s
  | .preparing t o =>
    match s.chains.ready.get t with
    | .high =>
      ({ s with
         chains :=
           { s.chains with
             onAir := t, verdictRun := 0, changeover := .steady, autoArm := armAfter s.chains.autoArm o } }).post
        (.changeover .completed t) label
    | .low =>
      ({ s with chains := { s.chains with changeover := .steady } }).post (.changeover .cancelled t) label

/-- R164: the automatic rule's own conditions, after the decision. -/
def State.autoApplies (s : State) : Bool :=
  decide (s.chains.threshold ≤ s.chains.verdictRun) && decide (s.chains.autoArm = .armed) &&
    decide (s.chains.changeover = .steady)

/-- R164: a failed verdict. -/
def Verdict.failed : Verdict → Bool
  | .bad => true
  | .absent => true
  | _ => false

/-- R164: the automatic rule. That the notice label is the boundary's is the model's reading (log 45). -/
def State.automaticRule (s : State) (v : Verdict) (label : Option Label) : State :=
  if v.failed && s.autoApplies then
    let t := s.chains.onAir.other
    match s.chains.ready.get t with
    | .high =>
      ({ s with chains := { s.chains with changeover := .preparing t .auto } }).post (.changeover .started t) label
    | .low => s.post (.changeover .notReady t) label
  else s

/-- R166: the gating of one chain. -/
def gateOf (x : Chains) (c : Chain) : Gate :=
  if c = x.onAir then .keyed
  else
    match x.standby, x.changeover with
    | .hot, _ => .keyed
    | .cold, .preparing t _ => if t = c then .keyed else .held
    | .cold, .steady => .held

/-- R166: the gating of the minute now beginning. -/
def State.gate (s : State) : State :=
  { s with chains := { s.chains with gating := { one := gateOf s.chains .one, two := gateOf s.chains .two } } }

/-- R164, R166: what follows the decision at a boundary, with the verdict handed over, if any. -/
def State.changeoverBoundary (s : State) (v : Option Verdict) (label : Option Label) : State :=
  let s := s.decideChangeover label
  match v with
  | none => s.gate
  | some v => (s.automaticRule v label).gate

end Sys2Proof.Machine
end

