-- ==== Sys2Proof/Machine/Flags.lean ====
section
/-! DEFINITION. Machine/Flags.lean: the parity bits of a record and the places of its bits in channels A and B (R14, R121, R190). -/

namespace Sys2Proof.Machine

/-- The w low bits of n, lowest weight first (R190). -/
def bitsLE : Nat → Nat → List Bool
  | 0, _ => []
  | w + 1, n => (n % 2 == 1) :: bitsLE w (n / 2)

/-- The number that bits spell, lowest weight first (R190). -/
def valueLE : List Bool → Nat
  | [] => 0
  | b :: bs => b.toNat + 2 * valueLE bs

/-- R14: the parity bit of a group: true when the group holds an odd number of ones. -/
def oddOnes (bits : List Bool) : Bool := bits.foldr xor false

/-- R8, R190: the group of P1. -/
def minuteGroup (f : CodeFields) : List Bool := bitsLE 4 (f.localMinute % 10) ++ bitsLE 3 (f.localMinute / 10)

/-- R8, R190: the group of P2. -/
def hourGroup (f : CodeFields) : List Bool := bitsLE 4 (f.localHour % 10) ++ bitsLE 2 (f.localHour / 10)

/-- R9, R190: the group of P3. -/
def dateGroup (f : CodeFields) : List Bool :=
  bitsLE 4 (f.localDay % 10) ++ bitsLE 2 (f.localDay / 10) ++ bitsLE 3 f.weekday ++
    bitsLE 4 (f.localMonth % 10) ++ bitsLE 1 (f.localMonth / 10) ++
    bitsLE 4 (f.localYear % 10) ++ bitsLE 4 (f.localYear / 10) ++ [f.century]

/-- R10: the offset magnitude in quarter-hours. -/
def CodeFields.magnitude (f : CodeFields) : Nat := f.offset.natAbs / 15

/-- R10: the west sign. -/
def CodeFields.west (f : CodeFields) : Bool := decide (f.offset < 0)

/-- R10, R190: the group of P4. -/
def offsetGroup (f : CodeFields) : List Bool := bitsLE 6 f.magnitude ++ [f.west]

/-- R11, R12, R190: the group of P5. -/
def statusGroup (f : CodeFields) : List Bool :=
  [f.summer, f.zoneChange, f.leap, f.leapDelete, f.chainTwo] ++ bitsLE 2 f.quality

/-- R13, R190: the group of P6. -/
def serviceGroup (f : CodeFields) : List Bool := bitsLE 16 f.code ++ [f.present]

/-- R121: the six parity bits of a record's fields. -/
def parityOf (f : CodeFields) : ParityBits :=
  { p1 := oddOnes (minuteGroup f), p2 := oddOnes (hourGroup f), p3 := oddOnes (dateGroup f),
    p4 := oddOnes (offsetGroup f), p5 := oddOnes (statusGroup f), p6 := oddOnes (serviceGroup f) }

/-- R190: the 58 places of channel A, from second 1. -/
def channelA (f : CodeFields) (p : ParityBits) : List Bool :=
  minuteGroup f ++ [p.p1] ++ hourGroup f ++ [p.p2] ++ dateGroup f ++ [p.p3] ++ offsetGroup f ++ [p.p4] ++
    List.replicate 11 false

/-- R190: the 58 places of channel B, from second 1. -/
def channelB (f : CodeFields) (p : ParityBits) : List Bool :=
  statusGroup f ++ [p.p5] ++ serviceGroup f ++ [p.p6] ++ List.replicate 32 false

/-- R122: the symbols of a record of this length. -/
def symbolList (f : CodeFields) (p : ParityBits) (length : Nat) : List Symbol :=
  .minute :: (List.zipWith Symbol.mark (channelA f p) (channelB f p) ++
    List.replicate (length - 59) (Symbol.mark false false))

end Sys2Proof.Machine
end

