-- ==== Sys2Proof/Machine/Monitor.lean ====
section
/-! DEFINITION. Machine/Monitor.lean: the off-air monitor (8.2 to 8.4), and what one epoch hands to the blocks. -/

namespace Sys2Proof.Machine

/-- What a local epoch hands to the blocks that react to it: of the ended second its length, its W (R85), whether it was stepped (R50), its label, the length its minute has (R156), the symbol keyed in it (R139) and whether HOLDOVER already stood in it (R78); and the label delivered, whether a load was performed, and whether it is the range end. -/
structure EpochCtx where
  endedLength : Nat
  window : Nat
  stepped : Bool
  endedLabel : Option Label
  endedMinuteLength : Nat
  keyed : KeyedSecond
  wasHoldover : Bool
  label : Option Label
  loaded : Bool
  rangeEnd : Bool

/-- R52: the correction applied to the ended second. -/
def EpochCtx.applied (c : EpochCtx) : Int := (c.endedLength : Int) - nominalSecond

/-! ### Transitions -/

/-- R154: a falling transition of the watched signal at the present phase count. -/
def State.monitorFall (s : State) : State :=
  match s.monitor.openInterval with
  | some _ => s
  | none =>
    { s with
      monitor := { s.monitor with openInterval := some { phase := s.counter.phase, current := true, carried := 0 } } }

/-- R154: the delay subtracted from a start. -/
def Monitor.delayOf (m : Monitor) : Nat :=
  match m.source with
  | .normal => m.settings.delay
  | .loop => 0

/-- R155: a finished interval of the current second is kept while there are fewer than four. -/
def Monitor.keep (m : Monitor) (i : Interval) : Monitor :=
  if m.intervals.length < 4 then { m with intervals := m.intervals ++ [i] } else { m with overflow := true }

/-- R154, R155: a rising transition of the watched signal. An interval that fell in an earlier second has already made that second INVALID and is not counted again. -/
def State.monitorRise (s : State) : State :=
  match s.monitor.openInterval with
  | none => s
  | some o =>
    let m : Monitor := { s.monitor with openInterval := none }
    if o.current then
      { s with
        monitor := m.keep { start := (o.phase : Int) - m.delayOf, duration := s.counter.phase - o.phase } }
    else { s with monitor := m }

/-- R154: the watched signal of source LOOP: low while the on-air output presents less than (1000 + D) div 2. -/
def State.loopLow (s : State) : Bool :=
  decide (s.presented s.chains.onAir < (1000 + s.keyer.active.depth) / 2)

/-- R154: the transition, if any, that source LOOP sees between a state and the next. -/
def State.loopTransition (s : State) (wasLow : Bool) : State :=
  match s.monitor.source with
  | .normal => s
  | .loop => if s.loopLow = wasLow then s else if s.loopLow then s.monitorFall else s.monitorRise

/-! ### Closing a second -/

/-- R155: within T of a place. -/
def within (t : Nat) (x y : Int) : Bool := decide ((x - y).natAbs ≤ t)

/-- R155: an interval at a place given by start and duration. -/
def Interval.isAt (i : Interval) (t start duration : Nat) : Bool := within t i.start start && within t i.duration duration

/-- R155: the minute place. -/
def Interval.atMinute (t : Nat) (i : Interval) : Bool := i.isAt t 0 5000000

/-- R155: the mark place. -/
def Interval.atMark (t : Nat) (i : Interval) : Bool := i.isAt t 0 1000000

/-- R155: the window A place. -/
def Interval.atA (t : Nat) (i : Interval) : Bool := i.isAt t 2000000 1000000

/-- R155: the window B place. -/
def Interval.atB (t : Nat) (i : Interval) : Bool := i.isAt t 4000000 1000000

/-- R155: the intervals are one MARK with at most one interval in each window and nothing else. -/
def isMark (t : Nat) (is : List Interval) : Bool :=
  is.countP (Interval.atMark t) == 1 && decide (is.countP (Interval.atA t) ≤ 1) &&
    decide (is.countP (Interval.atB t) ≤ 1) && is.all (fun i => i.atMark t || i.atA t || i.atB t)

/-- R155: the symbol that intervals show, with no open interval and none lost. -/
def observedOf (t : Nat) (is : List Interval) : Observed :=
  if is.isEmpty then .none
  else if is.length == 1 && is.all (Interval.atMinute t) then .minute
  else if isMark t is then .mark (is.any (Interval.atA t)) (is.any (Interval.atB t))
  else .invalid

/-- R155: the observed symbol of the second that closes. -/
def Monitor.observed (m : Monitor) : Observed :=
  if m.overflow || m.openInterval.any (fun o => o.current) then .invalid
  else observedOf m.settings.tolerance m.intervals

/-- R156: one closed second enters the minute under observation. -/
def Observation.enter (o : Observation) (c : EpochCtx) (seen : Observed) : Observation :=
  match c.endedLabel with
  | none => o
  | some l =>
    { o with
      length := if l.second = 58 then some c.endedMinuteLength else o.length,
      entries := o.entries ++ [{ second := l.second, observed := seen, keyed := c.keyed }] }

/-- R155, R156: the monitor closes the ended second. -/
def State.closeSecond (s : State) (c : EpochCtx) : State :=
  let m := s.monitor
  { s with
    monitor :=
      { m with
        observation := m.observation.map (fun o => o.enter c m.observed),
        intervals := [], overflow := false,
        openInterval := m.openInterval.map (fun o =>
          { o with current := false, carried := o.carried + c.endedLength }) } }

/-! ### The verdict -/

/-- R156: an observed symbol is the one keyed. -/
def Observed.agrees : Observed → Symbol → Bool
  | .none, .none => true
  | .minute, .minute => true
  | .mark a b, .mark a' b' => a == a' && b == b'
  | _, _ => false

/-- R157: the mismatch count. -/
def mismatches (es : List Entry) : Nat := es.countP (fun e => !e.observed.agrees e.keyed.symbol)

/-- R157: any entry has mode QUIET. -/
def anyQuiet (es : List Entry) : Bool := es.any (fun e => decide (e.keyed.mode = .quiet))

/-- R157: the verdict. -/
def verdictOf (enable : Bool) (es : List Entry) : Verdict :=
  if enable = false then .notChecked
  else if anyQuiet es then .notChecked
  else if mismatches es = 0 then .good
  else if es.all (fun e => decide (e.observed = .none)) then .absent
  else .bad

/-- R159: the mode of the minute. -/
def modeOf (es : List Entry) : KeyMode :=
  if anyQuiet es then .quiet
  else
    match es with
    | e :: _ => e.keyed.mode
    | [] => .quiet

/-- The two bits observed at second n of a minute, if it was observed as a MARK. -/
def bitsAt (es : List Entry) (n : Nat) : Option (Bool × Bool) :=
  match es.find? (fun e => e.second == n) with
  | some { second := _, observed := .mark a b, keyed := _ } => some (a, b)
  | _ => none

/-- R158, R190: the values read at seconds lo to lo + n - 1 of one channel. -/
def places (read : Nat → Option Bool) (lo n : Nat) : List (Option Bool) := (List.range' lo n).map read

/-- R158: a parity group with its parity bit passes. -/
def groupPasses (g : List (Option Bool)) : Bool := g.all Option.isSome && !oddOnes (g.map (fun b => b.getD false))

/-- The number read at consecutive places. -/
def numberAt (read : Nat → Option Bool) (lo n : Nat) : Nat := valueLE ((places read lo n).map (fun b => b.getD false))

/-- The flag read at a place. -/
def flagAt (read : Nat → Option Bool) (n : Nat) : Bool := (read n).getD false

/-- R158, R190: the decoded fields as the places give them. -/
def decodedAt (a b : Nat → Option Bool) : Decoded :=
  { minuteUnits := numberAt a 1 4, minuteTens := numberAt a 5 3,
    hourUnits := numberAt a 9 4, hourTens := numberAt a 13 2,
    dayUnits := numberAt a 16 4, dayTens := numberAt a 20 2,
    weekday := numberAt a 22 3,
    monthUnits := numberAt a 25 4, monthTens := numberAt a 29 1,
    yearUnits := numberAt a 30 4, yearTens := numberAt a 34 4,
    century := flagAt a 38, magnitude := numberAt a 40 6, west := flagAt a 46,
    summer := flagAt b 1, zoneChange := flagAt b 2, leap := flagAt b 3, leapDelete := flagAt b 4,
    chainTwo := flagAt b 5, quality := numberAt b 6 2,
    code := numberAt b 9 16, present := flagAt b 25,
    p5Passed := groupPasses (places b 1 8), p6Passed := groupPasses (places b 9 18) }

/-- R158: the four channel A groups pass. -/
def channelAPasses (a : Nat → Option Bool) : Bool :=
  groupPasses (places a 1 8) && groupPasses (places a 9 7) && groupPasses (places a 16 24) &&
    groupPasses (places a 40 8)

/-- R158: the decoded fields, if present. -/
def decodeMinute (es : List Entry) : Option Decoded :=
  let a := fun n => (bitsAt es n).map Prod.fst
  let b := fun n => (bitsAt es n).map Prod.snd
  if es.all (fun e => decide (e.observed ≠ .invalid)) && channelAPasses a then some (decodedAt a b) else none

/-- R159: the monitor record of an observed minute. -/
def Observation.record (o : Observation) (enable : Bool) (source : Source) : MonRecord :=
  { minute := o.minute, length := o.length.getD o.entries.length, source := source, mode := modeOf o.entries,
    verdict := verdictOf enable o.entries, mismatches := mismatches o.entries,
    observed := o.entries.map (fun e => e.observed), decoded := decodeMinute o.entries }

/-- R159: the monitor stores a record. -/
def Monitor.store (m : Monitor) (r : MonRecord) : Monitor :=
  { m with record := some r, isNew := true, overwritten := m.overwritten || m.isNew }

/-- R159: MON_VERDICT for a failed minute, with the run as it stands. -/
def State.postVerdict (s : State) (r : MonRecord) (label : Option Label) : State :=
  if r.verdict.failed then s.post (.monVerdict r.minute r.verdict r.mismatches s.chains.verdictRun) label else s

/-- R157, R159, R162: the verdict on the minute under observation, counted, stored and reported; then the changeover block's boundary. -/
def State.judge (s : State) (label : Option Label) : State :=
  match s.monitor.observation with
  | none => s.changeoverBoundary none label
  | some o =>
    let r := o.record s.monitor.settings.enable s.monitor.source
    let s := ({ s with monitor := s.monitor.store r }).countVerdict r.verdict
    (s.postVerdict r label).changeoverBoundary (some r.verdict) label

/-! ### Opening an observation -/

/-- R154: the source of a minute. -/
def sourceFor : MaintMode → Source
  | .loop => .loop
  | _ => .normal

/-- R153, R154, R156: the observation of minute m opens; an interval open across a change of source is discarded. -/
def State.openObservation (s : State) (m : Nat) : State :=
  let src := sourceFor s.chains.maintenance
  { s with
    monitor :=
      { s.monitor with
        settings := s.monitor.staged.getD s.monitor.settings, staged := none,
        source := src,
        openInterval := if src = s.monitor.source then s.monitor.openInterval else none,
        observation := some { minute := m, length := none, entries := [] } } }

/-- R156: the minute under observation is abandoned. -/
def State.abandon (s : State) : State := { s with monitor := { s.monitor with observation := none } }

/-- R155 to R159, R162 to R166: the monitor, and the changeover block behind it, at an epoch. -/
def State.monitorEpoch (s : State) (c : EpochCtx) : State :=
  let s := s.closeSecond c
  let s := if c.loaded || c.rangeEnd then s.abandon else s
  match c.label with
  | none => s
  | some l => if l.second = 0 then (s.judge c.label).openObservation l.minute else s

end Sys2Proof.Machine
end

