-- ==== Sys2Proof/Machine/Images.lean ====
section
/-! DEFINITION. Machine/Images.lean: the fixed-width images and the reply fields of the reading commands (R192, R193). -/

namespace Sys2Proof.Machine

/-! ### References (REFC, REFS) -/

/-- R40, R192: the six settings in command order. -/
def Reference.settingFields (x : Reference) : List Text :=
  [onOff (decide (x.state ≠ .off)), edgeText x.polarity, decimal x.delay, maskText x.mask, lossText x.lossMode,
   decimal x.priority]

/-- R193: the mask as one hexadecimal digit. -/
def maskDigit (m : Mask) : Nat := m.sec.toNat + 2 * m.min.toNat + 4 * m.hour.toNat + 8 * m.date.toNat

/-- R193: the settings image. -/
def Reference.settingsImage (x : Reference) : Text :=
  flagText (decide (x.state ≠ .off)) ++ (match x.polarity with | .rising => ['R'] | .falling => ['F']) ++
    fixed 5 x.delay ++ hexFixed 1 (maskDigit x.mask) ++
    (match x.lossMode with | .normal => ['N'] | .extended => ['E']) ++ fixed 1 x.priority

/-- R193: the letter of a reference state. -/
def refStateLetter : RefState → Char
  | .off => 'O' | .lost => 'L' | .qualifying => 'Q' | .good => 'G' | .rejected => 'R'

/-- R193: the state image. -/
def Reference.stateImage (x : Reference) (selected : Bool) : Text :=
  refStateLetter x.state :: (fixed 2 x.goodRun ++ fixed 1 x.faultCount ++ fixed 2 x.missCount ++
    flagText selected ++ flagText x.held.isSome)

/-- R193: the jitter base image. -/
def jitterImage : Option Int → Text
  | some z => signedFixed 7 z
  | none => dashes 8

/-- R193: the review code. -/
def reviewCode : Option Review → Text
  | none => ['N']
  | some .missed => ['M']
  | some .good => ['G']
  | some .skipped => ['S']
  | some (.faulty .excursion) => ['E']
  | some (.faulty .multiple) => ['U']
  | some (.faulty .noword) => ['W']
  | some (.faulty .disagree) => ['D']
  | some (.faulty .jitter) => ['J']

/-- R193: the word part of a capture image. -/
def wordImage : Option TimeWord → Text
  | some w => dateText w.date ++ fixed 2 w.hour ++ fixed 2 w.minute ++ fixed 2 w.second ++ [leapMarkChar w.leap]
  | none => dashes 15

/-- R193: the label part of a capture image. -/
def labelImage : Option Label → Text
  | some l => labelText l
  | none => dashes 14

/-- R193: the letter of an agreement result. -/
def agreementLetter : Agreement → Char
  | .agree => 'A' | .disagree => 'D' | .unchecked => 'U'

/-- R193: the letter of a side. -/
def sideLetter : Side → Char
  | .current => 'C' | .next => 'N'

/-- R193: the capture image. -/
def captureImage (c : Capture) : Text :=
  fixed 8 c.phase ++ signedFixed 7 c.offset ++ [sideLetter c.side] ++ labelImage c.label ++ wordImage c.word ++
    [agreementLetter c.agreement]

/-- R58, R192: the fields of a REFS reply. -/
def State.refsFields (s : State) (r : RefNo) : List Text :=
  let x := s.ref r
  [refText r, x.settingsImage, x.stateImage (decide (s.selector.selected = some r)), jitterImage x.jitterBase,
   reviewCode x.review, orNone captureImage x.last]

/-! ### Settings with a staged set (DISC, KEYC, MONC) -/

/-- R192: the seven discipline settings. -/
def DiscSettings.texts (d : DiscSettings) : List Text :=
  [decimal d.j, decimal d.w, decimal d.b, decimal d.s, decimal d.h1, decimal d.h2, expiryText d.expiry]

/-- A staged set's fields, or the single field NONE. -/
def stagedTexts {α : Type} (f : α → List Text) : Option α → List Text
  | some a => f a
  | none => ["NONE".toList]

/-- R84, R192: the fields of a DISC reply. -/
def State.discFields (s : State) : List Text := s.disc.settings.texts ++ stagedTexts DiscSettings.texts s.disc.staged

/-- R193: the envelope image. -/
def envelopeImage (e : Envelope) : Text := fixed 3 e.depth ++ fixed 5 e.segment ++ e.shape.toList.flatMap (fixed 4)

/-- R142, R192: the fields of a KEYC reply. -/
def State.keycFields (s : State) : List Text := [envelopeImage s.keyer.active, orNone envelopeImage s.keyer.staged]

/-- R192: the three monitor settings. -/
def MonSettings.texts (m : MonSettings) : List Text := [onOff m.enable, decimal m.tolerance, decimal m.delay]

/-- R153, R192: the fields of a MONC reply. -/
def State.moncFields (s : State) : List Text :=
  s.monitor.settings.texts ++ stagedTexts MonSettings.texts s.monitor.staged

/-! ### Zone and slots (ZONC, ANNR) -/

/-- R192: the fields of a ZONC reply. -/
def State.zoncFields (s : State) : List Text :=
  [signed s.time.standardOffset, signed s.time.summerOffset, zoneText s.time.zone]

/-- R95, R192: the fields of an ANNR reply. -/
def slotFields (k : SlotNo) : Option Slot → List Text
  | none => [slotText k, "EMPTY".toList]
  | some x =>
    match x.content with
    | .zone e z w =>
      [slotText k, slotStateText x.state, "ZONE".toList, minuteText e, decimal e, zoneText z, decimal w,
       stateOutcomeText x.state]
    | .leap d dir w =>
      [slotText k, slotStateText x.state, "LEAP".toList, dateText (dateOfDay d), decimal d, minuteText (leapMinute d),
       decimal (leapMinute d), leapDirText dir, decimal w, stateOutcomeText x.state]
    | .service st t c =>
      [slotText k, slotStateText x.state, "SERVICE".toList, minuteText st, decimal st, minuteText t, decimal t,
       decimal c, stateOutcomeText x.state, yesNo x.carried]

/-! ### Records (RECR) -/

/-- R193: the record image. The mark of a record in AIR is written N. -/
def recordImage (r : Record) (stale : Bool) : Text :=
  let f := r.fields
  let p := r.parity
  fixed 2 r.length ++ (match r.zoneAt with | .standard => ['0'] | .summer => ['1']) ++ signedFixed 3 f.offset ++
    fixed 2 f.localMinute ++ fixed 2 f.localHour ++ fixed 2 f.localDay ++ fixed 1 f.weekday ++ fixed 2 f.localMonth ++
    fixed 2 f.localYear ++ flagText f.century ++
    flagText f.summer ++ flagText f.zoneChange ++ flagText f.leap ++ flagText f.leapDelete ++ flagText f.chainTwo ++
    fixed 1 f.quality ++ flagText f.present ++ fixed 5 f.code ++
    flagText p.p1 ++ flagText p.p2 ++ flagText p.p3 ++ flagText p.p4 ++ flagText p.p5 ++ flagText p.p6 ++
    (if stale then ['Y'] else ['N'])

/-- R192: fifteen hexadecimal digits for the 58 places of a channel. -/
def channelImage (places : List Bool) : Text := hexFixed 15 (valueLE places)

/-- R111: a record store. -/
inductive Store where
  | next
  | air
deriving DecidableEq, Repr

/-- R127: store names. -/
def storeText : Store → Text
  | .next => "NEXT".toList
  | .air => "AIR".toList

/-- R127: the part of a record. -/
inductive RecordPart where
  | fields
  | symbols
deriving DecidableEq, Repr

/-- R127: part names of RECR. -/
def recordPartText : RecordPart → Text
  | .fields => "FIELDS".toList
  | .symbols => "SYMBOLS".toList

/-- R127: the record of a store. -/
def State.store (s : State) : Store → Option Record
  | .next => s.nextRecord
  | .air => s.keyer.air

/-- R127: the stale mark that a reply shows. -/
def Store.staleShown (st : Store) (r : Record) : Bool :=
  match st with
  | .next => r.stale
  | .air => false

/-- The values that channel A has in a symbol list, from second 1 to 58. -/
def symbolsA (syms : List Symbol) : List Bool :=
  ((syms.drop 1).take 58).map (fun x => match x with | .mark a _ => a | _ => false)

/-- The values that channel B has in a symbol list, from second 1 to 58. -/
def symbolsB (syms : List Symbol) : List Bool :=
  ((syms.drop 1).take 58).map (fun x => match x with | .mark _ b => b | _ => false)

/-- R127, R128, R192: the fields of a RECR reply. -/
def State.recrFields (s : State) (st : Store) (part : RecordPart) : List Text :=
  match s.store st with
  | none => [storeText st, "NONE".toList]
  | some r =>
    match part with
    | .fields =>
      [storeText st, minuteText r.composedAt.minute, minuteText r.keyed, minuteText (r.keyed + 1),
       recordImage r (st.staleShown r)]
    | .symbols =>
      [storeText st, minuteText r.keyed, decimal r.length, channelImage (symbolsA r.symbols),
       channelImage (symbolsB r.symbols)]

/-! ### The monitor record (MONR) -/

/-- R160: the part of a monitor record. -/
inductive MonPart where
  | summary
  | symbols
  | fields
deriving DecidableEq, Repr

/-- R160: part names of MONR. -/
def monPartText : MonPart → Text
  | .summary => "SUMMARY".toList
  | .symbols => "SYMBOLS".toList
  | .fields => "FIELDS".toList

/-- R192: the character of an observed symbol. -/
def observedChar : Observed → Char
  | .minute => 'M'
  | .mark false false => '0'
  | .mark true false => '1'
  | .mark false true => '2'
  | .mark true true => '3'
  | .none => 'N'
  | .invalid => 'X'

/-- R193: the decoded image. -/
def decodedImage (d : Decoded) : Text :=
  hexFixed 1 d.minuteTens ++ hexFixed 1 d.minuteUnits ++ hexFixed 1 d.hourTens ++ hexFixed 1 d.hourUnits ++
    hexFixed 1 d.dayTens ++ hexFixed 1 d.dayUnits ++ hexFixed 1 d.weekday ++
    hexFixed 1 d.monthTens ++ hexFixed 1 d.monthUnits ++ hexFixed 1 d.yearTens ++ hexFixed 1 d.yearUnits ++
    hexFixed 1 d.century.toNat ++ fixed 2 d.magnitude ++ flagText d.west ++
    flagText d.summer ++ flagText d.zoneChange ++ flagText d.leap ++ flagText d.leapDelete ++ flagText d.chainTwo ++
    fixed 1 d.quality ++ flagText d.present ++ fixed 5 d.code ++ flagText d.p5Passed ++ flagText d.p6Passed

/-- R160, R192: the fields of one part of a monitor record. -/
def monPartFields (r : MonRecord) : MonPart → List Text
  | .summary =>
    [minuteText r.minute, decimal r.length, monSourceText r.source, keyModeText r.mode, verdictText r.verdict,
     decimal r.mismatches, yesNo r.decoded.isSome]
  | .symbols => [minuteText r.minute, r.observed.map observedChar]
  | .fields => [minuteText r.minute, orNone decodedImage r.decoded]

/-- R160, R192: the fields of a MONR reply. -/
def State.monrFields (s : State) (part : MonPart) : List Text :=
  match s.monitor.record with
  | none => [flagText false, flagText false, "NONE".toList]
  | some r => flagText s.monitor.isNew :: flagText s.monitor.overwritten :: monPartFields r part

/-! ### Chains (OUTC, MNTC) -/

/-- The target of a changeover. -/
def Changeover.target : Changeover → Option Chain
  | .steady => none
  | .preparing t _ => some t

/-- R165, R192: the fields of an OUTC reply. -/
def State.outcFields (s : State) : List Text :=
  [chainText s.chains.onAir, changeoverText s.chains.changeover, orEmpty chainText s.chains.changeover.target,
   autoArmText s.chains.autoArm, standbyText s.chains.standby, decimal s.chains.threshold,
   decimal s.chains.verdictRun]

/-- R150, R192: the fields of an MNTC reply. -/
def State.mntcFields (s : State) : List Text :=
  [maintText s.chains.maintenance, orEmpty (fun p => maintText p.mode) s.chains.pendingMaintenance,
   orEmpty (fun p => dueText p.due) s.chains.pendingMaintenance]

/-- R193: the changeover items of the chain image. -/
def changeoverImage : Changeover → Text
  | .steady => ['S', '0', '-']
  | .preparing t .auto => 'P' :: (chainText t ++ ['A'])
  | .preparing t .manual => 'P' :: (chainText t ++ ['M'])

/-- R193: the letter of a ready level. -/
def readyLetter : Level → Char
  | .high => 'A'
  | .low => 'N'

/-- R193: the letter of a gating. -/
def gateLetter : Gate → Char
  | .keyed => 'K'
  | .held => 'H'

/-- R193: the chain image. -/
def chainImage (x : Chains) : Text :=
  chainText x.onAir ++ changeoverImage x.changeover ++
    (match x.autoArm with | .armed => ['A'] | .spent => ['S']) ++
    (match x.standby with | .hot => ['H'] | .cold => ['C']) ++
    fixed 2 x.threshold ++ fixed 2 x.verdictRun ++
    [readyLetter x.ready.one, readyLetter x.ready.two, gateLetter x.gating.one, gateLetter x.gating.two]

/-! ### The selector (SELC) and the notice list (NOTE, NMSK) -/

/-- The forced reference. -/
def SelMode.forced : SelMode → Option RefNo
  | .force r => some r
  | _ => none

/-- R63, R192: the fields of a SELC reply. -/
def State.selcFields (s : State) : List Text :=
  [selModeText s.selector.mode, orEmpty refText s.selector.mode.forced, refOrNone s.selector.selected]

/-- R184, R192: the fields of a NOTE reply that removes this entry, with the entries left. -/
def Notice.fields (e : Notice) (left : Nat) : List Text :=
  kindText e.data.kind :: decimal e.count :: labelOrUnset e.label :: decimal left :: noticeFields e.data

/-- R186: the mask as kind numbers, or NONE. -/
def State.nmskFields (s : State) : List Text :=
  match s.notices.mask with
  | [] => ["NONE".toList]
  | ks => ks.map (fun k => decimal k.number)

/-! ### STAT -/

/-- R178: the parts of STAT. -/
inductive StatPart where
  | summary | time | disc | key | env | staged | chain | list
deriving DecidableEq, Repr

/-- R178: part names of STAT. -/
def statPartText : StatPart → Text
  | .summary => "SUMMARY".toList | .time => "TIME".toList | .disc => "DISC".toList | .key => "KEY".toList
  | .env => "ENV".toList | .staged => "STAGED".toList | .chain => "CHAIN".toList | .list => "LIST".toList

/-- R18: the time status. -/
def State.statusWord (s : State) : Text := if s.time.isSet then "SET".toList else "UNSET".toList

/-- The quality code or NONE. -/
def State.qualityField (s : State) : Text := orNone decimal s.qualityCode

/-- R37, R30: the local label of a label under the zone state in force. -/
def State.localLabel (s : State) (l : Label) : Label :=
  { minute := s.time.localMinute s.time.zone l.minute, second := l.second }

/-- The weekday of a minute number. -/
def weekdayText (m : Nat) : Text := decimal (weekdayOfDay (dayOfMinute m))

/-- R37: the pending load source. -/
def State.pendingField (s : State) : Text := orNone (fun p => sourceText p.source) s.time.pending

/-- R178, R179, R192: the fields of a STAT part after its name. -/
def State.statFields (s : State) : StatPart → List Text
  | .summary =>
    [s.statusWord, labelOrUnset s.time.label, discStateText s.disc.state, s.qualityField,
     refOrNone s.selector.selected, keyModeText s.keyer.mode, maintText s.chains.maintenance,
     chainText s.chains.onAir, changeoverText s.chains.changeover, decimal s.notices.entries.length,
     yesNo s.monitor.isNew]
  | .time =>
    [s.statusWord, labelOrUnset s.time.label, orEmpty (fun l => decimal (dayOfMinute l.minute)) s.time.label,
     orEmpty (fun l => weekdayText l.minute) s.time.label, zoneText s.time.zone,
     signed s.time.standardOffset, signed s.time.summerOffset, labelOrUnset (s.time.label.map s.localLabel),
     orEmpty (fun l => weekdayText (s.localLabel l).minute) s.time.label, s.pendingField]
  | .disc =>
    [selModeText s.selector.mode, orEmpty refText s.selector.mode.forced, refOrNone s.selector.selected,
     discStateText s.disc.state, decimal s.disc.lockRun, decimal s.disc.excursions, decimal s.disc.elapsed,
     setClear s.disc.expired, s.qualityField, orEmpty signed s.disc.lastApplied]
  | .key =>
    [setClear s.nextRecord.isSome, orEmpty (fun r => minuteText r.keyed) s.nextRecord,
     orEmpty (fun r => yesNo r.stale) s.nextRecord, keyModeText s.keyer.mode,
     orNone (fun r => minuteText r.keyed) s.keyer.air, orEmpty (fun r => decimal r.length) s.keyer.air]
  | .env => [envelopeImage s.keyer.active, yesNo s.keyer.staged.isSome]
  | .staged => [orNone envelopeImage s.keyer.staged]
  | .chain =>
    s.mntcFields ++
      [chainImage s.chains, flagText s.monitor.isNew, flagText s.monitor.overwritten,
       orNone (fun r => verdictText r.verdict) s.monitor.record,
       orEmpty (fun r => minuteText r.minute) s.monitor.record]
  | .list => decimal s.notices.entries.length :: s.notices.entries.map (fun e => decimal e.data.kind.number)

end Sys2Proof.Machine
end

