-- ==== Sys2Proof/Machine/Port.lean ====
section
/-! DEFINITION. Machine/Port.lean: the control port: the form and check of records, replies, and the taking of a command (9.1). -/

namespace Sys2Proof.Machine

/-! ### Replies -/

/-- R172, R177: the exclusive OR of characters. -/
def checkOf (t : Text) : Nat := t.foldl (fun n c => n ^^^ c.toNat) 0

/-- R177: the check as two hexadecimal digits in capitals. -/
def checkText (t : Text) : Text := hexFixed 2 (checkOf t)

/-- R177: fields, each preceded by a comma. -/
def commaFields (fields : List Text) : Text := fields.flatMap (fun f => ',' :: f)

/-- R177: the body of a reply. -/
def replyBody (word status : Text) (fields : List Text) : Text := word ++ ' ' :: status ++ commaFields fields

/-- R177: a reply record. -/
def replyText (word status : Text) (fields : List Text) : Text :=
  '=' :: replyBody word status fields ++ '*' :: checkText (replyBody word status fields) ++ ['\r', '\n']

/-- R175, R195: a character occupies ten bit times. -/
def LineSpeed.charTicks (v : LineSpeed) : Nat := 10 * v.bitTicks

/-- R174, R175: the port begins to send a reply. -/
def State.startReply (s : State) (text : Text) (resets : Bool) : State :=
  { s with
    port := { s.port with reply := some { toSend := text, ticksLeft := s.port.speed.charTicks, resets := resets } } }

/-! ### Taking a command -/

/-- What an owner gives the port for a command: the state after its action, the status and the reply's fields, and whether the end of the reply takes a reset. -/
structure Answer where
  state : State
  status : Status
  fields : List Text
  resets : Bool

/-- R173: a refusal changes nothing and carries no field. -/
def State.refuse (s : State) (status : Status) : Answer := { state := s, status := status, fields := [], resets := false }

/-- A command taken with OK. -/
def State.accept (s : State) (fields : List Text) : Answer := { state := s, status := .ok, fields := fields, resets := false }

/-- R169, R170: the port hunts, and holds no record (log 2). -/
def State.hunting (s : State) : State :=
  { s with port := { s.port with receive := .hunting, buffer := [], overlong := false, badChar := false } }

/-- R185: the port posts LINK. -/
def State.postLink (s : State) (cause : LinkCause) : State := s.post (.link cause) s.now

/-- R174: the owner's answer is sent as the reply to a command. -/
def Answer.send (a : Answer) (c : Command) : State :=
  a.state.startReply (replyText (commandWord c) (statusText a.status) a.fields) a.resets

/-- R172 to R175: a whole, well-formed record with this command word completes: discarded as an overrun while a reply is in transmission, else taken by its owner and answered. -/
def State.takeCommand (s : State) (c : Command) (owner : State → Answer) : State :=
  if s.resetHeld then s
  else
    match s.port.reply with
    | some _ => s.hunting.postLink (.overrun (some (commandWord c)))
    | none => (owner s.hunting).send c

/-! ### Records -/

/-- R172: the body, and what follows the first '*', if there is one. -/
def splitBody (chars : Text) : Text × Option Text :=
  let t := chars.drop 1
  match t.dropWhile (fun c => c != '*') with
  | [] => (t, none)
  | _ :: rest => (t.takeWhile (fun c => c != '*'), some rest)

/-- R172: a digit 0 to 9 or a capital letter A to F, as its value. -/
def hexValue (c : Char) : Option Nat :=
  if isDigit c then some (c.toNat - 48)
  else if 65 ≤ c.toNat ∧ c.toNat ≤ 70 then some (c.toNat - 55)
  else none

/-- R172: the two check characters as a number. -/
def readCheck : Text → Option Nat
  | [a, b] =>
    match hexValue a, hexValue b with
    | some x, some y => some (16 * x + y)
    | _, _ => none
  | _ => none

/-- R172: the word of a body, up to its first space. -/
def wordOf (body : Text) : Text := body.takeWhile (fun c => c != ' ')

/-- R173: the text after the word's space. -/
def fieldTextOf (body : Text) : Text := (body.dropWhile (fun c => c != ' ')).drop 1

/-- R172: the shape of a body. -/
def bodyFits (body : Text) : Bool :=
  match body with
  | [] => false
  | c :: _ => c != ' ' && c != ',' && (!body.contains ' ' || !(fieldTextOf body).isEmpty)

/-- R173: the fields of a body. -/
def fieldsOf (body : Text) : List Text := if body.contains ' ' then splitOn ',' (fieldTextOf body) else []

/-- R172: what the port makes of a completed record. -/
inductive Parsed where
  | bad (status : Status)
  | command (c : Command) (fields : List Text)
deriving DecidableEq, Repr

/-- R172: the four checks in order. -/
def parseRecord (chars : Text) (overlong badChar : Bool) : Parsed :=
  if overlong || badChar then .bad .badform
  else
    match splitBody chars with
    | (_, none) => .bad .badform
    | (body, some rest) =>
      match readCheck rest with
      | none => .bad .badform
      | some n =>
        if bodyFits body = false then .bad .badform
        else if n ≠ checkOf body then .bad .badcheck
        else
          match readName commandWord allCommands (wordOf body) with
          | none => .bad .unknown
          | some c => .command c (fieldsOf body)

/-- R185: the word that an OVERRUN notice carries (log 17). -/
def linkWord (chars : Text) : Option Text :=
  match splitBody chars with
  | (_, none) => none
  | (body, some _) => if 1 ≤ (wordOf body).length ∧ (wordOf body).length ≤ 4 then some (wordOf body) else none

/-- R172: the reply to a record that is not taken. -/
def State.replyNotTaken (s : State) (status : Status) : State :=
  s.startReply (replyText "????".toList (statusText status) []) false

/-- R172 to R175: a record completes; owner says who answers each command. -/
def State.completeRecord (owner : Command → List Text → State → Answer) (s : State) (chars : Text)
    (overlong badChar : Bool) : State :=
  if s.resetHeld then s
  else
    match s.port.reply with
    | some _ => s.hunting.postLink (.overrun (linkWord chars))
    | none =>
      match parseRecord chars overlong badChar with
      | .bad status => s.hunting.replyNotTaken status
      | .command c fields => (owner c fields s.hunting).send c

/-- R170: a record starts. -/
def State.startRecord (s : State) : State :=
  { s with port := { s.port with receive := .assembling, buffer := [':'], overlong := false, badChar := false } }

/-- R170: a printable character that is stored, or that makes the record overlong. -/
def State.storeChar (s : State) (c : Char) : State :=
  if s.port.buffer.length < 95 then { s with port := { s.port with buffer := s.port.buffer ++ [c] } }
  else { s with port := { s.port with overlong := true } }

/-- R170: a bad character. -/
def State.markBad (s : State) : State := { s with port := { s.port with badChar := true } }

/-- R170: space through tilde. -/
def isPrintable (c : Char) : Bool := decide (32 ≤ c.toNat) && decide (c.toNat ≤ 126)

/-- R170, R171: the port receives a character; a framing error is looked at first (log 24). -/
def State.receiveChar (owner : Command → List Text → State → Answer) (s : State) (ch : RxChar) : State :=
  if s.resetHeld then s
  else
    match s.port.receive with
    | .hunting => if ch.framingError = false ∧ ch.code = ':' then s.startRecord else s
    | .assembling =>
      if ch.framingError then s.markBad
      else if ch.code = ':' then (s.postLink .restart).startRecord
      else if ch.code = '\r' then s.completeRecord owner s.port.buffer s.port.overlong s.port.badChar
      else if isPrintable ch.code then s.storeChar ch.code
      else s.markBad

end Sys2Proof.Machine
end

