-- ==== Sys2Proof/Machine/Commands.lean ====
section
/-! DEFINITION. Machine/Commands.lean: what the owning block of each of the nineteen commands does with it (9.2): the checks in the owner's order, the action, and the reply's fields. -/

namespace Sys2Proof.Machine

/-- No field is given. -/
def noFields (f : List Text) : Bool := noneBeyond f 0

/-! ### Reading commands -/

/-- R178: the parts of STAT. -/
def allStatParts : List StatPart := [.summary, .time, .disc, .key, .env, .staged, .chain, .list]

/-- R178: STAT. -/
def ownStat (f : List Text) (s : State) : Answer :=
  match optField f 1 (readName statPartText allStatParts), noneBeyond f 1 with
  | .absent, true => s.accept (statPartText .summary :: s.statFields .summary)
  | .value p, true => s.accept (statPartText p :: s.statFields p)
  | _, _ => s.refuse .range

/-- R58: REFS. -/
def ownRefs (f : List Text) (s : State) : Answer :=
  match reqField f 1 readRef, noneBeyond f 1 with
  | some r, true => s.accept (s.refsFields r)
  | _, _ => s.refuse .range

/-- R95: ANNR. -/
def ownAnnr (f : List Text) (s : State) : Answer :=
  match reqField f 1 readSlot, noneBeyond f 1 with
  | some k, true => s.accept (slotFields k (s.slot k))
  | _, _ => s.refuse .range

/-- R127: RECR. -/
def ownRecr (f : List Text) (s : State) : Answer :=
  match reqField f 1 (readName storeText [.next, .air]),
      optField f 2 (readName recordPartText [.fields, .symbols]), noneBeyond f 2 with
  | some st, .absent, true => s.accept (s.recrFields st .fields)
  | some st, .value p, true => s.accept (s.recrFields st p)
  | _, _, _ => s.refuse .range

/-- R160: a MONR that finds a record clears its flags. -/
def State.clearMonFlags (s : State) : State :=
  match s.monitor.record with
  | none => s
  | some _ => { s with monitor := { s.monitor with isNew := false, overwritten := false } }

/-- R160: MONR; the flags are given as they stood before they are cleared. -/
def ownMonr (f : List Text) (s : State) : Answer :=
  match optField f 1 (readName monPartText [.summary, .symbols, .fields]), noneBeyond f 1 with
  | .absent, true => s.clearMonFlags.accept (s.monrFields .summary)
  | .value p, true => s.clearMonFlags.accept (s.monrFields p)
  | _, _ => s.refuse .range

/-! ### The time scale -/

/-- R32: the discipline states in which SETT is refused. -/
def DiscState.tracking : DiscState → Bool
  | .track => true
  | .holdover => true
  | _ => false

/-- R32: the label that the fields of a SETT name. -/
def settTarget (f : List Text) : Option Label :=
  match fieldAt f 1, fieldAt f 2, noneBeyond f 2 with
  | some d, some t, true => readSett d t
  | _, _, _ => none

/-- R32: SETT. -/
def ownSett (f : List Text) (s : State) : Answer :=
  if s.disc.state.tracking then s.refuse .state
  else
    match settTarget f with
    | none => s.refuse .range
    | some l => (s.requestLoad .host l).accept []

/-- R28: any ZONE slot is active. -/
def anyActiveZone (slots : Vector (Option Slot) 8) : Bool := !(zoneSchedule (slotList slots)).isEmpty

/-- R28: ZONC. -/
def ownZonc (f : List Text) (s : State) : Answer :=
  let std := optField f 1 readOffset
  let sum := optField f 2 readOffset
  let zone := optField f 3 (readName zoneText [.standard, .summer])
  if (noneBeyond f 3 && std.fine && sum.fine && zone.fine) = false then s.refuse .range
  else if zone.or s.time.zone ≠ s.time.zone ∧ anyActiveZone s.slots = true then s.refuse .order
  else
    let s' : State :=
      { s with
        time :=
          { s.time with
            standardOffset := std.or s.time.standardOffset, summerOffset := sum.or s.time.summerOffset,
            zone := zone.or s.time.zone } }
    s'.accept s'.zoncFields

/-! ### References and selection -/

/-- R40: a mask that contains SEC. -/
def readSecMask (t : Text) : Option Mask :=
  match readMask t with
  | some m => if m.sec then some m else none
  | none => none

/-- R40: ON or OFF. -/
def readOnOff (t : Text) : Option Bool := readName onOff [true, false] t

/-- R40: the setting fields of a REFC can all be read, and none is surplus. -/
def refcFine (f : List Text) : Bool :=
  noneBeyond f 7 && (optField f 2 readOnOff).fine && (optField f 3 (readName edgeText [.rising, .falling])).fine &&
    (optField f 4 (readWithin 0 50000)).fine && (optField f 5 readSecMask).fine &&
    (optField f 6 (readName lossText [.normal, .extended])).fine && (optField f 7 (readWithin 1 3)).fine

/-- R40: the polarity, delay, mask and loss mode that a REFC gives. -/
def Reference.withFields (x : Reference) (f : List Text) : Reference :=
  { x with
    polarity := (optField f 3 (readName edgeText [.rising, .falling])).or x.polarity,
    delay := (optField f 4 (readWithin 0 50000)).or x.delay,
    mask := (optField f 5 readSecMask).or x.mask,
    lossMode := (optField f 6 (readName lossText [.normal, .extended])).or x.lossMode }

/-- R40, R62: a priority is set; a change makes the selector evaluate. -/
def State.setPriority (s : State) (r : RefNo) (p : Nat) : State :=
  if (s.ref r).priority = p then s
  else (s.setRef r { s.ref r with priority := p }).evaluate .priority s.now

/-- R40: a REFC that gives both an enable and a priority takes the two in a free order (log 14). -/
def State.setBoth (s : State) (r : RefNo) (on : Bool) (p : Nat) : State :=
  if s.freeNow % 2 = 0 then (s.countFree.setPriority r p).setEnable r on
  else (s.countFree.setEnable r on).setPriority r p

/-- R40: the enable and the priority of a REFC. -/
def State.setEnablePriority (s : State) (r : RefNo) (on : Option Bool) (p : Option Nat) : State :=
  match on, p with
  | some on, some p => s.setBoth r on p
  | some on, none => s.setEnable r on
  | none, some p => s.setPriority r p
  | none, none => s

/-- R40: REFC. -/
def ownRefc (f : List Text) (s : State) : Answer :=
  match reqField f 1 readRef, refcFine f with
  | some r, true =>
    let s' := (s.setRef r ((s.ref r).withFields f)).setEnablePriority r (optField f 2 readOnOff).get?
      (optField f 7 (readWithin 1 3)).get?
    s'.accept (refText r :: (s'.ref r).settingFields)
  | _, _ => s.refuse .range

/-- R63: the mode that the fields of a SELC name. -/
def readSelMode (f : List Text) : Option SelMode :=
  match fieldAt f 1, optField f 2 readRef, noneBeyond f 2 with
  | some m, .absent, true =>
    if m = "AUTO_REVERT".toList then some .autoRevert
    else if m = "AUTO_HOLD".toList then some .autoHold
    else none
  | some m, .value r, true => if m = "FORCE".toList then some (.force r) else none
  | _, _, _ => none

/-- R63: SELC. -/
def ownSelc (f : List Text) (s : State) : Answer :=
  match readSelMode f with
  | none => s.refuse .range
  | some m =>
    let s' := ({ s with selector := { s.selector with mode := m } }).evaluate .command s.now
    s'.accept s'.selcFields

/-! ### Staged settings -/

/-- R84: the fields of a DISC can all be read, each in its own range. -/
def discFine (f : List Text) : Bool :=
  noneBeyond f 7 && (optField f 1 (readWithin 1 1000)).fine && (optField f 2 (readWithin 1 1000)).fine &&
    (optField f 3 (readWithin 0 999)).fine && (optField f 4 (readWithin 100 100000)).fine &&
    (optField f 5 (readWithin 60 86400)).fine && (optField f 6 (readWithin 60 604800)).fine &&
    (optField f 7 (readName expiryText [.bare, .continue])).fine

/-- R84: every field that a DISC gives, put into a set. -/
def DiscSettings.withFields (d : DiscSettings) (f : List Text) : DiscSettings :=
  { j := (optField f 1 (readWithin 1 1000)).or d.j, w := (optField f 2 (readWithin 1 1000)).or d.w,
    b := (optField f 3 (readWithin 0 999)).or d.b, s := (optField f 4 (readWithin 100 100000)).or d.s,
    h1 := (optField f 5 (readWithin 60 86400)).or d.h1, h2 := (optField f 6 (readWithin 60 604800)).or d.h2,
    expiry := (optField f 7 (readName expiryText [.bare, .continue])).or d.expiry }

/-- R84: the orderings of a set. -/
def DiscSettings.ordered (d : DiscSettings) : Bool := decide (d.w ≤ d.j) && decide (d.b < d.w) && decide (d.h1 ≤ d.h2)

/-- R84: the candidate set of a DISC. -/
def State.discCandidate (s : State) (f : List Text) : DiscSettings := (s.disc.staged.getD s.disc.settings).withFields f

/-- R84: DISC. -/
def ownDisc (f : List Text) (s : State) : Answer :=
  if noFields f then s.accept s.discFields
  else if (discFine f && (s.discCandidate f).ordered) = false then s.refuse .range
  else
    let s' : State := { s with disc := { s.disc with staged := some (s.discCandidate f) } }
    s'.accept s'.discFields

/-- R142: the fields of a KEYC can all be read, each in its own range. -/
def keycFine (f : List Text) : Bool :=
  noneBeyond f 3 && (optField f 1 (readWithin 50 500)).fine && (optField f 2 (readWithin 100 12500)).fine &&
    (optField f 3 readShape).fine

/-- R142: every field that a KEYC gives, put into a set. -/
def Envelope.withFields (e : Envelope) (f : List Text) : Envelope :=
  { depth := (optField f 1 (readWithin 50 500)).or e.depth,
    segment := (optField f 2 (readWithin 100 12500)).or e.segment,
    shape := (optField f 3 readShape).or e.shape }

/-- R141: a list that does not decrease anywhere. -/
def nondecreasing : List Nat → Bool
  | a :: b :: t => decide (a ≤ b) && nondecreasing (b :: t)
  | _ => true

/-- R141: a shape that does not decrease and ends at 1000. -/
def Envelope.ordered (e : Envelope) : Bool := nondecreasing e.shape.toList && e.shape[7] == 1000

/-- R142: the candidate set of a KEYC. -/
def State.keycCandidate (s : State) (f : List Text) : Envelope := (s.keyer.staged.getD s.keyer.active).withFields f

/-- R142: KEYC. -/
def ownKeyc (f : List Text) (s : State) : Answer :=
  if noFields f then s.accept s.keycFields
  else if (keycFine f && (s.keycCandidate f).ordered) = false then s.refuse .range
  else
    let s' : State := { s with keyer := { s.keyer with staged := some (s.keycCandidate f) } }
    s'.accept s'.keycFields

/-- R153: the fields of a MONC can all be read, each in its own range. -/
def moncFine (f : List Text) : Bool :=
  noneBeyond f 3 && (optField f 1 readOnOff).fine && (optField f 2 (readWithin 1000 200000)).fine &&
    (optField f 3 (readWithin 0 50000)).fine

/-- R153: every field that a MONC gives, put into a set. -/
def MonSettings.withFields (m : MonSettings) (f : List Text) : MonSettings :=
  { enable := (optField f 1 readOnOff).or m.enable, tolerance := (optField f 2 (readWithin 1000 200000)).or m.tolerance,
    delay := (optField f 3 (readWithin 0 50000)).or m.delay }

/-- R153: the candidate set of a MONC. -/
def State.moncCandidate (s : State) (f : List Text) : MonSettings :=
  (s.monitor.staged.getD s.monitor.settings).withFields f

/-- R153: MONC. -/
def ownMonc (f : List Text) (s : State) : Answer :=
  if noFields f then s.accept s.moncFields
  else if moncFine f = false then s.refuse .range
  else
    let s' : State := { s with monitor := { s.monitor with staged := some (s.moncCandidate f) } }
    s'.accept s'.moncFields

/-! ### The announcement table -/

/-- R88, R90: the new content of a slot, from the fields from the kind on; absent where RANGE refuses it. That a field beyond the fifth is refused here, at R89's third step, is the model's choice (log 43). -/
def readContent (f : List Text) : Option SlotContent :=
  if noneBeyond f 5 = false then none
  else
    match reqField f 2 (readName slotKindText [.zone, .leap, .service]) with
    | none => none
    | some .zone =>
      match reqField f 3 readMinute, reqField f 4 (readName zoneText [.standard, .summer]),
          reqField f 5 (readWithin 1 180) with
      | some e, some z, some w => some (.zone e z w)
      | _, _, _ => none
    | some .leap =>
      match reqField f 3 readDay, reqField f 4 (readName leapDirText [.insert, .delete]),
          reqField f 5 (readWithin 1 1440) with
      | some d, some dir, some w => some (.leap d dir w)
      | _, _, _ => none
    | some .service =>
      match reqField f 3 readMinute, reqField f 4 readMinute, reqField f 5 (readWithin 0 65535) with
      | some st, some t, some c => if st < t ∧ t ≤ st + 10080 then some (.service st t c) else none
      | _, _, _ => none

/-- R90: a leap day that is not the last day of its month. -/
def SlotContent.badDay : SlotContent → Bool
  | .leap d _ _ => !isMonthEnd d
  | _ => false

/-- R91: an active slot of the same kind, ZONE or LEAP, with the same effective minute. -/
def Slot.conflictsWith (x : Slot) (c : SlotContent) : Bool :=
  x.state.active &&
    (match x.content, c with
     | .zone e _ _, .zone e' _ _ => e == e'
     | .leap d _ _, .leap d' _ _ => d == d'
     | _, _ => false)

/-- R91: another slot than k conflicts with the new content. -/
def conflicts (slots : Vector (Option Slot) 8) (k : SlotNo) (c : SlotContent) : Bool :=
  allSlots.any (fun n => decide (n ≠ k) && (slots[n]).any (fun x => x.conflictsWith c))

/-- R93: a slot just written. -/
def Slot.written (c : SlotContent) : Slot := { state := .armed, content := c, carried := false }

/-- R92: the ZONE slots alternate after the write of a slot. -/
def orderHolds (slots : Vector (Option Slot) 8) (inForce : Zone) (k : SlotNo) (c : SlotContent) : Bool :=
  alternates inForce (zoneSchedule (slotList (slots.set k (some (Slot.written c)))))

/-- R92: the fifth step applies. -/
def orderApplies (slots : Vector (Option Slot) 8) (k : SlotNo) (c : SlotContent) : Bool :=
  decide (c.kind = .zone) || ((slots[k]).bind Slot.zonePart).isSome

/-- R90 to R92: the third, fourth and fifth steps for slot k and the label at the command: the content to write, or why not. -/
def State.checkContent (s : State) (l : Label) (k : SlotNo) (f : List Text) : Except Status SlotContent :=
  match readContent f with
  | none => .error .range
  | some c =>
    if c.badDay then .error .badday
    else if c.minute < l.minute + 3 then .error .late
    else if conflicts s.slots k c then .error .conflict
    else if orderApplies s.slots k c && !orderHolds s.slots s.time.zone k c then .error .order
    else .ok c

/-- R89: a COMMITTED slot. -/
def slotCommitted (o : Option Slot) : Bool := o.any (fun x => decide (x.state = .committed))

/-- R89 to R93: ANNW. -/
def ownAnnw (f : List Text) (s : State) : Answer :=
  match s.time.label with
  | none => s.refuse .notime
  | some l =>
    match reqField f 1 readSlot with
    | none => s.refuse .range
    | some k =>
      if slotCommitted (s.slot k) then s.refuse .state
      else
        match s.checkContent l k f with
        | .error e => s.refuse e
        | .ok c => (s.setSlot k (some (Slot.written c))).accept (slotFields k (some (Slot.written c)))

/-- R94: an active ZONE slot has a later effective minute. -/
def laterZone (slots : Vector (Option Slot) 8) (e : Nat) : Bool :=
  (zoneSchedule (slotList slots)).any (fun p => decide (e < p.1))

/-- R94: why a cancel is refused, if it is. -/
def State.cancelRefusal (s : State) (k : SlotNo) : Option Status :=
  match s.slot k with
  | none => none
  | some x =>
    match x.state, x.content with
    | .committed, _ => some .late
    | .done _, _ => none
    | _, .zone e _ _ => if laterZone s.slots e then some .order else none
    | _, _ => none

/-- R94: ANNC. -/
def ownAnnc (f : List Text) (s : State) : Answer :=
  match reqField f 1 readSlot, noneBeyond f 1 with
  | some k, true =>
    match s.cancelRefusal k with
    | some e => s.refuse e
    | none => (s.setSlot k none).accept [slotText k, "EMPTY".toList]
  | _, _ => s.refuse .range

/-! ### Chains and maintenance -/

/-- R165: the fields of an OUTC can all be read. -/
def outcFine (f : List Text) : Bool :=
  noneBeyond f 4 && (optField f 1 (readName standbyText [.hot, .cold])).fine && (optField f 2 readChain).fine &&
    (optField f 3 (readName autoArmText [.armed, .spent])).fine && (optField f 4 (readWithin 1 15)).fine

/-- R165: the standby mode, auto-arm state and threshold that an OUTC gives. -/
def Chains.withFields (x : Chains) (f : List Text) : Chains :=
  { x with
    standby := (optField f 1 (readName standbyText [.hot, .cold])).or x.standby,
    autoArm := (optField f 3 (readName autoArmText [.armed, .spent])).or x.autoArm,
    threshold := (optField f 4 (readWithin 1 15)).or x.threshold }

/-- R165: the chain that an OUTC asks to put on air, if it is not on air. -/
def State.askedChain (s : State) (f : List Text) : Option Chain :=
  match (optField f 2 readChain).get? with
  | some c => if c = s.chains.onAir then none else some c
  | none => none

/-- R165: the second check, for a chain that is not on air. -/
def State.startRefusal (s : State) (c : Chain) : Option Status :=
  match s.chains.changeover, s.chains.ready.get c with
  | .preparing _ _, _ => some .busy
  | .steady, .low => some .notready
  | .steady, .high => none

/-- R165: OUTC. -/
def ownOutc (f : List Text) (s : State) : Answer :=
  if outcFine f = false then s.refuse .range
  else
    match s.askedChain f with
    | none =>
      let s' : State := { s with chains := s.chains.withFields f }
      s'.accept s'.outcFields
    | some c =>
      match s.startRefusal c with
      | some e => s.refuse e
      | none =>
        let s' : State := { s with chains := { s.chains.withFields f with changeover := .preparing c .manual } }
        s'.accept s'.outcFields

/-- R150: MNTC. -/
def ownMntc (f : List Text) (s : State) : Answer :=
  match reqField f 1 (readName maintText [.normal, .loop, .inhibit]), noneBeyond f 1 with
  | some m, true =>
    let s' : State :=
      { s with chains := { s.chains with pendingMaintenance := maintenanceRequest s.chains.maintenance m } }
    s'.accept s'.mntcFields
  | _, _ => s.refuse .range

/-! ### The notice list and reset -/

/-- R184: NOTE. -/
def ownNote (f : List Text) (s : State) : Answer :=
  if noFields f = false then s.refuse .range
  else
    match s.notices.entries with
    | [] => s.accept ["NONE".toList]
    | e :: rest =>
      ({ s with notices := { s.notices with entries := rest } } : State).accept (e.fields rest.length)

/-- R186: the mask that the fields of an NMSK name. -/
def readKinds (names : List Text) : Option (List NoticeKind) :=
  if names = ["NONE".toList] then some []
  else if names.all (fun t => (readWithin 1 15 t).isSome) then
    some (maskableKinds.filter (fun k => names.any (fun t => readWithin 1 15 t == some k.number)))
  else none

/-- R186: NMSK. -/
def ownNmsk (f : List Text) (s : State) : Answer :=
  if noFields f then s.accept s.nmskFields
  else
    match readKinds (f.filter (fun t => !t.isEmpty)) with
    | none => s.refuse .range
    | some ks =>
      let s' : State := { s with notices := { s.notices with mask := ks } }
      s'.accept s'.nmskFields

/-- R189: RSET; the end of its reply takes the reset. -/
def ownRset (f : List Text) (s : State) : Answer :=
  if noFields f = false then s.refuse .range else { state := s, status := .ok, fields := [], resets := true }

/-! ### The owner of each command -/

/-- 9.2: the owner of a command. -/
def ownerOf : Command → List Text → State → Answer
  | .stat => ownStat
  | .sett => ownSett
  | .refc => ownRefc
  | .refs => ownRefs
  | .selc => ownSelc
  | .disc => ownDisc
  | .zonc => ownZonc
  | .annw => ownAnnw
  | .annr => ownAnnr
  | .annc => ownAnnc
  | .keyc => ownKeyc
  | .outc => ownOutc
  | .monc => ownMonc
  | .monr => ownMonr
  | .recr => ownRecr
  | .mntc => ownMntc
  | .note => ownNote
  | .nmsk => ownNmsk
  | .rset => ownRset

end Sys2Proof.Machine
end

