-- ==== Sys2Proof/Machine/Composer.lean ====
section
/-! DEFINITION. Machine/Composer.lean: the record composer (06). -/

namespace Sys2Proof.Machine

/-- R116 to R120: the fields of a record that describes minute d, from the table and the time scale as they stand. -/
def State.recordFields (s : State) (d quality : Nat) : CodeFields :=
  let z := zoneAt s.slots s.time.zone d
  let local_ := s.time.localMinute z d
  let date := dateOfDay (dayOfMinute local_)
  { localMinute := minuteOfHour local_, localHour := hourOfMinute local_,
    localDay := date.day, weekday := weekdayOfDay (dayOfMinute local_), localMonth := date.month,
    localYear := date.year % 100, century := decide (2100 ≤ date.year),
    offset := s.time.offset z, summer := decide (z = .summer),
    zoneChange := zoneChangeFlag s.slots d,
    leap := (leapAnswer s.slots d).isSome,
    leapDelete := decide (leapAnswer s.slots d = some .delete),
    chainTwo := decide (s.chains.onAir = .two),
    quality := quality,
    present := (serviceCode s.slots d).isSome,
    code := (serviceCode s.slots d).getD 0 }

/-- R113, R115: the record composed at this label, from the table as its transitions left it. -/
def State.newRecord (s : State) (label : Label) (quality : Nat) : Record :=
  let k := label.minute + 1
  let f := s.recordFields (k + 1) quality
  let len := minuteLength s.slots k
  { composedAt := label, keyed := k, length := len,
    zoneAt := Sys2Proof.Machine.zoneAt s.slots s.time.zone (k + 1),
    fields := f, parity := parityOf f, symbols := symbolList f (parityOf f) len, stale := false }

/-- R123: a record is placed in NEXT; one already there is lost and reported. -/
def State.place (s : State) (r : Record) : State :=
  match s.nextRecord with
  | none => { s with nextRecord := some r }
  | some old =>
    ({ s with nextRecord := some r }).post (.recordDiscard .replaced old.keyed r.keyed old.stale)
      (some r.composedAt)

/-- R113: a composition. -/
def State.compose (s : State) (label : Label) (quality : Nat) : State :=
  let s := s.tableAtComposition (label.minute + 1) (label.minute + 2) (some label)
  s.place (s.newRecord label quality)

/-- R112: the composer at an epoch that delivers this label. -/
def State.composition (s : State) (label : Option Label) : State :=
  match label, s.qualityCode with
  | some l, some q => if l.second = 50 then s.compose l q else s
  | _, _ => s

end Sys2Proof.Machine
end

