-- ==== Sys2Proof/Machine/Keyer.lean ====
section
/-! DEFINITION. Machine/Keyer.lean: the keyer and the envelope shaper (07). -/

namespace Sys2Proof.Machine

/-! ### Taking the record -/

/-- R131: the first of the three tests that a record fails against minute m of this length. -/
def Record.failedTest (r : Record) (m length : Nat) : Option FailedTest :=
  if r.keyed ≠ m then some .minute
  else if r.length ≠ length then some .length
  else if r.stale then some .mark
  else none

/-- The state with AIR replaced. -/
def State.setAir (s : State) (r : Option Record) : State := { s with keyer := { s.keyer with air := r } }

/-- R131: at the boundary that begins minute m the keyer takes the record from NEXT. -/
def State.takeRecord (s : State) (m : Nat) (label : Option Label) : State :=
  let s' := { s with nextRecord := none }
  match s.nextRecord with
  | none => s'.setAir none
  | some r =>
    match r.failedTest m (minuteLength s.slots m) with
    | none => s'.setAir (some r)
    | some t => (s'.setAir none).post (.recordDiscard (.stale t) r.keyed m r.stale) label

/-! ### The keying mode -/

/-- R138: the keying mode becomes this one; a change posts KEY_MODE. -/
def State.setMode (s : State) (mode : KeyMode) (cause : KeyCause) (label : Option Label) : State :=
  if s.keyer.mode = mode then s
  else ({ s with keyer := { s.keyer with mode := mode } }).post (.keyMode s.keyer.mode mode cause) label

/-- R136: the first of the three conditions that holds. -/
def State.quietCause (s : State) : Option KeyCause :=
  if s.chains.maintenance = .inhibit then some .inhibit
  else if s.time.isSet = false then some .unset
  else if s.disc.state = .acquire then some .acquire
  else none

/-- R134: the mode of the minute now beginning, and its cause. -/
def State.boundaryMode (s : State) : KeyMode × KeyCause :=
  match s.quietCause with
  | some c => (.quiet, c)
  | none =>
    if s.disc.expired = true ∧ s.disc.settings.expiry = .bare then (.bare, .expired)
    else if s.keyer.air.isNone then (.bare, .norecord)
    else (.full, .record)

/-- R136: the test at an epoch that is not a boundary. -/
def State.testMode (s : State) (label : Option Label) : State :=
  match s.quietCause with
  | some c => s.setMode .quiet c label
  | none => s

/-- R133: the record in AIR is tested against the minute that a load enters. That the notice label of RECORD_DISCARD is the epoch's is the model's reading (log 45). -/
def State.testAir (s : State) (m : Nat) (label : Option Label) : State :=
  match s.keyer.air with
  | none => s
  | some r =>
    match r.failedTest m (minuteLength s.slots m) with
    | none => s
    | some t =>
      let s := (s.setAir none).post (.recordDiscard (.stale t) r.keyed m r.stale) label
      if s.keyer.mode = .full then s.setMode .bare .load label else s

/-! ### The schedule -/

/-- R139: the symbol keyed in second n under a mode. -/
def keyedSymbol (mode : KeyMode) (air : Option Record) (n : Nat) : Symbol :=
  match mode with
  | .quiet => .none
  | .bare => if n = 0 then .minute else .mark false false
  | .full =>
    match air.bind (fun r => r.symbols[n]?) with
    | some sym => sym
    | none => if n = 0 then .minute else .mark false false

/-- R139: the symbol of a second from the label that begins it. -/
def State.symbolFor (s : State) : Option Label → Symbol
  | some l => keyedSymbol s.keyer.mode s.keyer.air l.second
  | none => .none

/-- R2, R3, R139: the drops of a symbol. -/
def dropsOf : Symbol → List Drop
  | .minute => [{ start := 0, duration := 5000000 }]
  | .mark a b =>
    { start := 0, duration := 1000000 } ::
      ((if a then [{ start := 2000000, duration := 1000000 }] else []) ++
        (if b then [{ start := 4000000, duration := 1000000 }] else []))
  | .none => []

/-- R139: the schedule of the second that begins; the monitor is handed its mode and symbol. The shaper is IDLE at every epoch (R140). -/
def State.makeSchedule (s : State) (label : Option Label) : State :=
  let sym := s.symbolFor label
  { s with
    keyer := { s.keyer with schedule := dropsOf sym, dropIndex := 0, phase := .idle, amplitude := 1000 },
    monitor := { s.monitor with keyed := { mode := s.keyer.mode, symbol := sym } } }

/-- R143: a staged envelope becomes the active one. -/
def State.envelopeInForce (s : State) : State :=
  match s.keyer.staged with
  | none => s
  | some e => { s with keyer := { s.keyer with active := e, staged := none } }

/-- R131, R134, R143: the keyer at the boundary that begins minute m. -/
def State.keyerBoundary (s : State) (m : Nat) (label : Option Label) : State :=
  let s := (s.takeRecord m label).envelopeInForce
  s.setMode s.boundaryMode.1 s.boundaryMode.2 label

/-- R133, R136: the keyer at any other epoch, the load test first (log 20). -/
def State.keyerOther (s : State) (c : EpochCtx) : State :=
  match c.label with
  | some l => (if c.loaded then s.testAir l.minute c.label else s).testMode c.label
  | none => s.testMode c.label

/-- R131 to R139: the keyer at an epoch. -/
def State.keyerEpoch (s : State) (c : EpochCtx) : State :=
  (match c.label with
   | some l => if l.second = 0 then s.keyerBoundary l.minute c.label else s.keyerOther c
   | none => s.keyerOther c).makeSchedule c.label

/-! ### The envelope shaper -/

/-- R144: the rounded quotient of segment k. -/
def Envelope.quotient (e : Envelope) (k : Fin 8) : Nat := ((1000 - e.depth) * e.shape[k] + 500) / 1000

/-- R144: the amplitude of a phase. -/
def Envelope.amplitude (e : Envelope) : EnvPhase → Nat
  | .idle => 1000
  | .falling k => 1000 - e.quotient k
  | .hold => e.depth
  | .rising k => e.depth + e.quotient k

/-- R144: the next phase of a drop and the phase count at which it begins. -/
def Drop.nextPoint (d : Drop) (segment : Nat) : EnvPhase → EnvPhase × Nat
  | .idle => (.falling 0, d.start)
  | .falling k =>
    if h : k.val + 1 < 8 then (.falling ⟨k.val + 1, h⟩, d.start + (k.val + 1) * segment)
    else (.hold, d.start + 8 * segment)
  | .hold => (.rising 0, d.start + d.duration)
  | .rising k =>
    if h : k.val + 1 < 8 then (.rising ⟨k.val + 1, h⟩, d.start + d.duration + (k.val + 1) * segment)
    else (.idle, d.start + d.duration + 8 * segment)

/-- R140, R144: the shaper's next phase and its phase count, while a scheduled drop is not yet complete. -/
def Keyer.nextPoint (k : Keyer) : Option (EnvPhase × Nat) :=
  match k.schedule[k.dropIndex]? with
  | some d => some (d.nextPoint k.active.segment k.phase)
  | none => none

/-- R144: the shaper enters a phase; a drop that is back at IDLE is complete. -/
def Keyer.enter (k : Keyer) (p : EnvPhase) : Keyer :=
  { k with
    phase := p, amplitude := k.active.amplitude p,
    dropIndex := if p = .idle then k.dropIndex + 1 else k.dropIndex }

/-- R146, R194: one strobe counter when the shaper's amplitude changes or not: the tick of the change and the two that follow it. -/
def strobeFor (changed : Bool) (g : Gate) (left : Nat) : Nat :=
  match changed, g with
  | true, .keyed => 3
  | _, _ => left

/-- R146: every keyed output strobes when the amplitude has changed. -/
def State.strobeChange (s : State) (changed : Bool) : State :=
  { s with
    strobes :=
      { one := strobeFor changed s.chains.gating.one s.strobes.one,
        two := strobeFor changed s.chains.gating.two s.strobes.two } }

/-- R144, R146, R154: the shaper enters a phase at the present phase count. -/
def State.enterPhase (s : State) (p : EnvPhase) : State :=
  let changed := decide (s.keyer.active.amplitude p ≠ s.keyer.amplitude)
  (({ s with keyer := s.keyer.enter p }).strobeChange changed).loopTransition s.loopLow

/-- R144: the shaper reaches its next segment point, if the schedule holds one. -/
def State.segmentPoint (s : State) : State :=
  match s.keyer.nextPoint with
  | none => s
  | some (p, t) => (s.reach t).enterPhase p

/-- The shaper passes its segment points before phase count t, at most fuel of them (three drops have 54). -/
def State.passSegments (t : Nat) : Nat → State → State
  | 0, s => s
  | fuel + 1, s =>
    match s.keyer.nextPoint with
    | none => s
    | some (_, u) => if u < t then State.passSegments t fuel s.segmentPoint else s

end Sys2Proof.Machine
end

