-- ==== Sys2Proof/Machine/Epoch.lean ====
section
/-! DEFINITION. Machine/Epoch.lean: the local epoch (R64): the counter begins again, the time scale gives the label, and the blocks react to it.
The order of the reactions is free where the spec leaves it open (R114, R135, R182; log 3). -/

namespace Sys2Proof.Machine

/-- The reactions of the blocks to one epoch. -/
inductive Reaction where
  /-- R85: staged discipline settings come into force. -/
  | settings
  /-- R151: a pending maintenance change comes into force. -/
  | maintenance
  /-- R131 to R139: the keyer. -/
  | keyer
  /-- R155 to R166: the monitor, and the changeover block behind it. -/
  | monitor
  /-- R78, R79: the holdover timers. -/
  | holdover
  /-- R50: the review of a reference. -/
  | review (r : RefNo)
  /-- R112: the composer. -/
  | composition
  /-- R102, R103: the announcement table at a boundary. -/
  | table
  /-- R81: the discipline controller at the range end. -/
  | rangeEnd
deriving DecidableEq, Repr

/-- R102, R103: the table at an epoch. -/
def State.tableEpoch (s : State) (label : Option Label) : State :=
  match label with
  | some l => if l.second = 0 then s.tableAtBoundary l.minute label else s
  | none => s

/-- One reaction. -/
def State.react (c : EpochCtx) (s : State) : Reaction → State
  | .settings => s.discSettingsInForce
  | .maintenance => s.maintenanceInForce c.label
  | .keyer => s.keyerEpoch c
  | .monitor => s.monitorEpoch c
  | .holdover => s.holdoverTick (!c.wasHoldover) c.label
  | .review r => s.review r c.stepped c.window c.applied c.label
  | .composition => s.composition c.label
  | .table => s.tableEpoch c.label
  | .rangeEnd => if c.rangeEnd then s.rangeEndFree c.label else s

/-- The reactions that no rule orders against any other. -/
def freeReactions : List Reaction := [.review 0, .review 1, .review 2, .composition, .table, .rangeEnd]

/-- The order of an epoch's reactions under two free numbers: settings and maintenance come before the keyer, the monitor and the holdover timers (R85, R151), and all else is free. -/
def reactionOrder (n m : Nat) : List Reaction :=
  interleave n freeReactions
    (.settings :: .maintenance :: interleave m [.keyer, .monitor, .holdover] [])

/-- R64, R67, R83: the counter begins a nominal second; the ended second's marks go, and its correction is kept. -/
def State.beginSecond (s : State) : State :=
  { s with
    counter := { phase := 0, length := nominalSecond },
    disc :=
      { s.disc with
        entrySecond := false, stepped := false,
        lastApplied := some ((s.counter.length : Int) - nominalSecond) } }

/-- What the epoch that ends the running second hands on; t is what the time scale did at it. -/
def State.epochCtx (s : State) (t : TimeStep) : EpochCtx :=
  { endedLength := s.counter.length, window := s.disc.settings.w, stepped := s.disc.stepped,
    endedLabel := s.time.label,
    endedMinuteLength := s.time.label.elim 60 (fun l => minuteLength s.slots l.minute),
    keyed := s.monitor.keyed, wasHoldover := decide (s.disc.state = .holdover),
    label := t.state.time.label, loaded := t.loaded, rangeEnd := t.rangeEnd }

/-- The epoch with its reactions in a given order. -/
def State.epochInOrder (s : State) (order : List Reaction) : State :=
  let t := s.beginSecond.timeStep
  order.foldl (State.react (s.epochCtx t)) t.state

/-- R64: the local epoch that ends the running second now. -/
def State.localEpoch (s : State) : State :=
  s.countFree.countFree.epochInOrder (reactionOrder s.freeNow s.countFree.freeNow)

/-- R64: the running second goes on to its end, the shaper passing its segment points on the way (log 6). -/
def State.toEpoch (s : State) : State :=
  (State.passSegments s.counter.length 54 s).reach s.counter.length

/-- R64, R187: the next local epoch; while reset is asserted there is none. -/
def State.nextEpoch (s : State) : State := if s.resetHeld then s else s.toEpoch.localEpoch

/-- R22: the next local epoch is the range end. -/
def State.rangeEndDue (s : State) : Bool := s.timeStep.rangeEnd

/-- R84, R85: the settings in force at the next epoch's holdover checks. -/
def State.nextSettings (s : State) : DiscSettings := s.disc.staged.getD s.disc.settings

/-- R78: the next local epoch is the one at which the elapsed count first reaches H1. -/
def State.h1Due (s : State) : Bool :=
  decide (s.disc.state = .holdover) && !s.disc.h1Passed && decide (s.nextSettings.h1 ≤ s.disc.elapsed + 1)

/-- R79: the next local epoch is the one at which the elapsed count reaches H2. -/
def State.h2Due (s : State) : Bool :=
  decide (s.disc.state = .holdover) && decide (s.nextSettings.h2 ≤ s.disc.elapsed + 1)

/-- R65: a reference edge whose correction ends the second at once is followed by the epoch in the same event (log 12). -/
def CaptureStep.finish (c : CaptureStep) : State := if c.ended then c.state.localEpoch else c.state

end Sys2Proof.Machine
end

