-- ==== Sys2Proof/Machine/Reset.lean ====
section
/-! DEFINITION. Machine/Reset.lean: reset from the pin and by RSET (R187 to R189). -/

namespace Sys2Proof.Machine

/-- R195: the line speed that the baud-select pins give. -/
def speedOf (bs1 bs0 : Level) : LineSpeed :=
  match bs1, bs0 with
  | .low, .low => .b9600
  | .low, .high => .b19200
  | .high, .low => .b38400
  | .high, .high => .b115200

/-- R187: every item at its reset value, with the inputs and the queue as they are (log 34); no notice is listed and no strobe given yet. -/
def State.cleared (s : State) : State :=
  { State.reset with
    chains := Chains.reset s.pins.rdy,
    port := Port.reset (speedOf s.pins.bs1 s.pins.bs0),
    notices := { entries := [], mask := [] },
    strobes := { one := 0, two := 0 },
    pins := s.pins, lines := s.lines, resetHeld := false, freeCount := s.freeCount, pending := s.pending }

/-- R187: the reset input is asserted. -/
def State.holdReset (s : State) : State := { s.cleared with resetHeld := true }

/-- R147, R176, R188: the release of a reset: the pins are sampled, both outputs strobe in the first two ticks after it, and RESET is listed. -/
def State.release (s : State) (source : ResetSource) (bs1 bs0 : Level) : State :=
  ({ ({ s with pins := { s.pins with bs1 := bs1, bs0 := bs0 } } : State).cleared with
     strobes := { one := 3, two := 3 } } : State).post (.reset source (speedOf bs1 bs0)) none

/-- R189: an RSET reply is in transmission. -/
def State.rsetReplying (s : State) : Bool := s.port.reply.any (fun t => t.resets)

/-- R175, R189: the reply in transmission ends; the end of an RSET reply takes the reset at the levels of the pins. -/
def State.endReply (s : State) : State :=
  if s.rsetReplying then s.release .command s.pins.bs1 s.pins.bs0
  else { s with port := { s.port with reply := none } }

end Sys2Proof.Machine
end

