-- ==== Sys2Proof/Machine/Events.lean ====
section
/-! DEFINITION. Machine/Events.lean: the meaning of each of the 37 rows of the table, one definition for each. None ends in a fault or a refusal.
A row is an event: what cannot happen in the state it meets changes nothing (log 7, 8, 9). -/

namespace Sys2Proof.Machine

/-! ### The nineteen commands -/

/-- R178, R179, R174: STAT completes. -/
def execStat (fields : List Text) (s : State) : Out := .next (s.takeCommand .stat (ownStat fields))

/-- R32, R174: SETT completes. -/
def execSett (fields : List Text) (s : State) : Out := .next (s.takeCommand .sett (ownSett fields))

/-- R40, R174: REFC completes. -/
def execRefc (fields : List Text) (s : State) : Out := .next (s.takeCommand .refc (ownRefc fields))

/-- R58, R174: REFS completes. -/
def execRefs (fields : List Text) (s : State) : Out := .next (s.takeCommand .refs (ownRefs fields))

/-- R63, R174: SELC completes. -/
def execSelc (fields : List Text) (s : State) : Out := .next (s.takeCommand .selc (ownSelc fields))

/-- R84, R174: DISC completes. -/
def execDisc (fields : List Text) (s : State) : Out := .next (s.takeCommand .disc (ownDisc fields))

/-- R28, R174: ZONC completes. -/
def execZonc (fields : List Text) (s : State) : Out := .next (s.takeCommand .zonc (ownZonc fields))

/-- R89 to R93, R174: ANNW completes. -/
def execAnnw (fields : List Text) (s : State) : Out := .next (s.takeCommand .annw (ownAnnw fields))

/-- R95, R174: ANNR completes. -/
def execAnnr (fields : List Text) (s : State) : Out := .next (s.takeCommand .annr (ownAnnr fields))

/-- R94, R174: ANNC completes. -/
def execAnnc (fields : List Text) (s : State) : Out := .next (s.takeCommand .annc (ownAnnc fields))

/-- R142, R174: KEYC completes. -/
def execKeyc (fields : List Text) (s : State) : Out := .next (s.takeCommand .keyc (ownKeyc fields))

/-- R165, R174: OUTC completes. -/
def execOutc (fields : List Text) (s : State) : Out := .next (s.takeCommand .outc (ownOutc fields))

/-- R153, R174: MONC completes. -/
def execMonc (fields : List Text) (s : State) : Out := .next (s.takeCommand .monc (ownMonc fields))

/-- R160, R174: MONR completes. -/
def execMonr (fields : List Text) (s : State) : Out := .next (s.takeCommand .monr (ownMonr fields))

/-- R127, R128, R174: RECR completes. -/
def execRecr (fields : List Text) (s : State) : Out := .next (s.takeCommand .recr (ownRecr fields))

/-- R150, R174: MNTC completes. -/
def execMntc (fields : List Text) (s : State) : Out := .next (s.takeCommand .mntc (ownMntc fields))

/-- R184, R174: NOTE completes. -/
def execNote (fields : List Text) (s : State) : Out := .next (s.takeCommand .note (ownNote fields))

/-- R186, R174: NMSK completes. -/
def execNmsk (fields : List Text) (s : State) : Out := .next (s.takeCommand .nmsk (ownNmsk fields))

/-- R189, R174: RSET completes. -/
def execRset (fields : List Text) (s : State) : Out := .next (s.takeCommand .rset (ownRset fields))

/-! ### The control port -/

/-- R170 to R172: a record with these characters and marks completes. -/
def execRecordNotTaken (chars : Text) (overlong badChar : Bool) (s : State) : Out :=
  .next (s.completeRecord ownerOf chars overlong badChar)

/-- R175: a record with these characters completes, no mark being SET. -/
def execOverrun (chars : Text) (s : State) : Out := .next (s.completeRecord ownerOf chars false false)

/-- R171: ':' is received. -/
def execRestart (s : State) : Out := .next (s.receiveChar ownerOf { code := ':', framingError := false })

/-- R170: a character is received. -/
def execControlCharacterReceived (ch : RxChar) (s : State) : Out := .next (s.receiveChar ownerOf ch)

/-- R175, R187: the last stop bit of the reply in transmission ends; while reset is asserted there is none. -/
def execReplySent (s : State) : Out := .next (if s.resetHeld then s else s.endReply)

/-! ### Reset -/

/-- R187: the reset input is asserted. -/
def execResetAsserted (s : State) : Out := .next s.holdReset

/-- R187, R188: the reset input is released; an input that is not asserted cannot be. -/
def execResetReleased (bs1 bs0 : Level) (s : State) : Out :=
  .next (if s.resetHeld then s.release .pin bs1 bs0 else s)

/-- R187, R189: the reset of RSET is taken, at the end of its reply; while reset is asserted there is none. -/
def execRsetResetTaken (bs1 bs0 : Level) (s : State) : Out :=
  .next (if s.resetHeld then s else if s.rsetReplying then s.release .command bs1 bs0 else s)

/-! ### Epochs -/

/-- R64: the local epoch. -/
def execLocalEpoch (s : State) : Out := .next s.nextEpoch

/-- R22: the local epoch, if it is the range end. -/
def execTimeEnd (s : State) : Out := .next (if s.rangeEndDue then s.nextEpoch else s)

/-- R78: the local epoch, if the elapsed count first reaches H1 at it. -/
def execHoldoverLimitH1 (s : State) : Out := .next (if s.h1Due then s.nextEpoch else s)

/-- R79: the local epoch, if the elapsed count reaches H2 at it. -/
def execHoldoverExpiry (s : State) : Out := .next (if s.h2Due then s.nextEpoch else s)

/-! ### Inputs -/

/-- The level after a transition. -/
def levelAfter : Edge → Level
  | .rising => .high
  | .falling => .low

/-- R41, R195: this is a transition of reference r's edge line (the level changes, log 39), and it is a capture. -/
def State.captures (s : State) (r : RefNo) (edge : Edge) : Bool :=
  !s.resetHeld && decide (s.pins.refe[r] ≠ levelAfter edge) && decide ((s.ref r).state ≠ .off) &&
    decide ((s.ref r).polarity = edge)

/-- A reference's edge line takes a level. -/
def State.setEdgePin (s : State) (r : RefNo) (l : Level) : State :=
  { s with pins := { s.pins with refe := s.pins.refe.set r l } }

/-- R41 to R49: a transition of a reference's edge line. -/
def execReferenceEdge (r : RefNo) (edge : Edge) (s : State) : Out :=
  .next
    (if s.captures r edge then ((s.setEdgePin r (levelAfter edge)).edgeEvent r).finish
     else s.setEdgePin r (levelAfter edge))

/-- R44, R45: a word assembly of reference r ends. -/
def execWordCompletion (r : RefNo) (word : Option Text) (s : State) : Out :=
  .next (if s.takesWords r then s.setRef r ((s.ref r).endWord word) else s)

/-- R44: reference r's word receiver takes a character. -/
def execWordCharacterReceived (r : RefNo) (ch : RxChar) (s : State) : Out :=
  .next (s.receiveWordChar r ch)

/-- The monitor input takes a level. -/
def State.setMonPin (s : State) (l : Level) : State := { s with pins := { s.pins with mon := l } }

/-- R154: a transition of the monitor input under source NORMAL. -/
def State.watch (s : State) : Edge → State
  | .falling => s.monitorFall
  | .rising => s.monitorRise

/-- R154, R187: the transition reaches the monitor: the level changes, the part is not held and the source is NORMAL. -/
def State.watches (s : State) (edge : Edge) : Bool :=
  !s.resetHeld && decide (s.pins.mon ≠ (levelAfter edge)) && decide (s.monitor.source = .normal)

/-- R154, R196: a transition of the monitor input; a fall takes it low. -/
def execMonitorTransition (edge : Edge) (s : State) : Out :=
  .next (if s.watches edge then (s.setMonPin (levelAfter edge)).watch edge else s.setMonPin (levelAfter edge))

/-- A chain-ready input takes a level. -/
def State.setReadyPin (s : State) (c : Chain) (l : Level) : State :=
  { s with pins := { s.pins with rdy := s.pins.rdy.set c l } }

/-- R161, R187: the level differs from the one seen, and the part is not held. -/
def State.seesReady (s : State) (c : Chain) (l : Level) : Bool := !s.resetHeld && decide (s.chains.ready.get c ≠ l)

/-- R161: the level of a chain-ready input. -/
def execChainReady (c : Chain) (level : Level) (s : State) : Out :=
  .next (if s.seesReady c level then (s.setReadyPin c level).readyChange c level else s.setReadyPin c level)

/-- R144: the shaper reaches its next segment point. -/
def execEnvelopeSegment (s : State) : Out := .next (if s.resetHeld then s else s.segmentPoint)

end Sys2Proof.Machine
end

