-- ==== Sys2Proof/Machine/Dispatch.lean ====
section
/-! DEFINITION. Machine/Dispatch.lean: the meaning of each command and event, one arm for each row of the table. -/

namespace Sys2Proof.Machine

def exec (i : Instr) (s : State) : Host.Outcome State Fault Refusal :=
  match i with
  | .stat fields => Sys2Proof.Machine.execStat fields s
  | .sett fields => Sys2Proof.Machine.execSett fields s
  | .refc fields => Sys2Proof.Machine.execRefc fields s
  | .refs fields => Sys2Proof.Machine.execRefs fields s
  | .selc fields => Sys2Proof.Machine.execSelc fields s
  | .disc fields => Sys2Proof.Machine.execDisc fields s
  | .zonc fields => Sys2Proof.Machine.execZonc fields s
  | .annw fields => Sys2Proof.Machine.execAnnw fields s
  | .annr fields => Sys2Proof.Machine.execAnnr fields s
  | .annc fields => Sys2Proof.Machine.execAnnc fields s
  | .keyc fields => Sys2Proof.Machine.execKeyc fields s
  | .outc fields => Sys2Proof.Machine.execOutc fields s
  | .monc fields => Sys2Proof.Machine.execMonc fields s
  | .monr fields => Sys2Proof.Machine.execMonr fields s
  | .recr fields => Sys2Proof.Machine.execRecr fields s
  | .mntc fields => Sys2Proof.Machine.execMntc fields s
  | .note fields => Sys2Proof.Machine.execNote fields s
  | .nmsk fields => Sys2Proof.Machine.execNmsk fields s
  | .rset fields => Sys2Proof.Machine.execRset fields s
  | .rsetResetTaken bs1 bs0 => Sys2Proof.Machine.execRsetResetTaken bs1 bs0 s
  | .recordNotTaken chars overlong badChar => Sys2Proof.Machine.execRecordNotTaken chars overlong badChar s
  | .overrun chars => Sys2Proof.Machine.execOverrun chars s
  | .restart => Sys2Proof.Machine.execRestart s
  | .replySent => Sys2Proof.Machine.execReplySent s
  | .resetAsserted => Sys2Proof.Machine.execResetAsserted s
  | .resetReleased bs1 bs0 => Sys2Proof.Machine.execResetReleased bs1 bs0 s
  | .localEpoch => Sys2Proof.Machine.execLocalEpoch s
  | .timeEnd => Sys2Proof.Machine.execTimeEnd s
  | .holdoverLimitH1 => Sys2Proof.Machine.execHoldoverLimitH1 s
  | .holdoverExpiry => Sys2Proof.Machine.execHoldoverExpiry s
  | .referenceEdge r edge => Sys2Proof.Machine.execReferenceEdge r edge s
  | .wordCompletion r word => Sys2Proof.Machine.execWordCompletion r word s
  | .monitorTransition edge => Sys2Proof.Machine.execMonitorTransition edge s
  | .chainReady c level => Sys2Proof.Machine.execChainReady c level s
  | .envelopeSegment => Sys2Proof.Machine.execEnvelopeSegment s
  | .controlCharacterReceived ch => Sys2Proof.Machine.execControlCharacterReceived ch s
  | .wordCharacterReceived r ch => Sys2Proof.Machine.execWordCharacterReceived r ch s

end Sys2Proof.Machine
end

