-- ==== Sys2Proof/Machine/Receive.lean ====
section
/-! DEFINITION. Machine/Receive.lean: the receivers of the UART lines (R195): the start bit's falling edge, the samples in the middle of the bits, and the character at the end of its stop bit. -/

namespace Sys2Proof.Machine

/-- R44, R170: the ticks of a bit on the word lines, 9,600 baud. -/
abbrev wordBitTicks : Nat := LineSpeed.bitTicks .b9600

/-- R195: a line's level at the coming tick. -/
def nextLevel (line : List Level) : Level := line.headD .high

/-- R195: a falling edge is seen: the level sampled last was high and this one is low. -/
def Receiver.falls (x : Receiver) (l : Level) : Bool := decide (x.level = .high) && decide (l = .low)

/-- R195: a reception begins at the falling edge of a start bit. -/
def Reception.begun : Reception := { ticks := 0, bits := [] }

/-- R195: the tick, counted from the falling edge, that is the middle of the next bit to be sampled. -/
def Reception.nextSample (p : Reception) (bitTicks : Nat) : Nat := (p.bits.length + 1) * bitTicks + bitTicks / 2

/-- R195: the character received: its eight data bits, least significant first, and a framing error where the stop bit was sampled low. -/
def Reception.char (p : Reception) : RxChar :=
  { code := Char.ofNat (valueLE (p.bits.take 8)), framingError := !(p.bits.getD 8 true) }

/-- R195: one tick of a reception whose stop bit has not been sampled. -/
def Reception.sampled (p : Reception) (bitTicks : Nat) (l : Level) : Reception :=
  { ticks := p.ticks + 1,
    bits := if p.ticks + 1 = p.nextSample bitTicks then p.bits ++ [decide (l = .high)] else p.bits }

/-- R195: one tick of a receiver that samples this level, and the character whose stop bit ends at the tick, if any. A stop bit ends ten bit times after the falling edge, or at the falling edge of the next start bit where that comes first (log 40). -/
def Receiver.sample (bitTicks : Nat) (x : Receiver) (l : Level) : Receiver × Option RxChar :=
  match x.reception with
  | none => ({ level := l, reception := if x.falls l then some Reception.begun else none }, none)
  | some p =>
    if p.bits.length < 9 then ({ level := l, reception := some (p.sampled bitTicks l) }, none)
    else if x.falls l then ({ level := l, reception := some Reception.begun }, some p.char)
    else if 10 * bitTicks ≤ p.ticks + 1 then ({ level := l, reception := none }, some p.char)
    else ({ level := l, reception := some { p with ticks := p.ticks + 1 } }, none)

/-- R176, R195: the control line's receiver at the coming tick. -/
def State.controlSample (s : State) : Receiver × Option RxChar :=
  s.receivers.control.sample s.port.speed.bitTicks (nextLevel s.lines.crx)

/-- R44, R195: a word line's receiver at the coming tick. -/
def State.wordSample (s : State) (r : RefNo) : Receiver × Option RxChar :=
  (s.receivers.words[r]).sample wordBitTicks (nextLevel s.lines.refw[r])

/-- R195: the four receivers after the coming tick. A word line's receiver samples on while its reference is OFF; what then becomes of a character that an enable overtakes is the model's choice (log 46). -/
def State.sampledReceivers (s : State) : Receivers :=
  { control := s.controlSample.1, words := Vector.ofFn (fun r => (s.wordSample r).1) }

/-- The lines after the coming tick. -/
def Lines.advanced (x : Lines) : Lines := { crx := x.crx.tail, refw := x.refw.map List.tail }

end Sys2Proof.Machine
end

