-- ==== Sys2Proof/Machine/Idle.lean ====
section
/-! DEFINITION. Machine/Idle.lean: what the part does when no command waits: a segment point that is due, else one tick of the station frequency (R64, R144, R175, R194, R195; log 5). -/

namespace Sys2Proof.Machine

/-- R140: the shaper's next segment point is due at the present phase count. -/
def State.segmentDue (s : State) : Bool :=
  match s.keyer.nextPoint with
  | some (_, t) => decide (t ≤ s.counter.phase)
  | none => false

/-- R175: the character on the line has been sent; after the last one the reply ends. -/
def State.nextChar (s : State) (t : Transmission) : State :=
  match t.toSend with
  | _ :: c :: rest =>
    { s with port := { s.port with reply := some { t with toSend := c :: rest, ticksLeft := s.port.speed.charTicks } } }
  | _ => s.endReply

/-- What a tick can bring besides the passing of time. -/
inductive TickEvent where
  /-- R175: the stop bit of the character on the transmit line ends. -/
  | charSent
  /-- R170: the stop bit of a character on the control line ends. -/
  | controlChar (ch : RxChar)
  /-- R44: the stop bit of a character on a word line ends. -/
  | wordChar (r : RefNo) (ch : RxChar)
  /-- R64: the phase count reaches the running length. -/
  | epoch
deriving DecidableEq, Repr

/-- R175, R195: the character on the transmit line ends at the coming tick. -/
def State.charEnds (s : State) : Bool := s.port.reply.any (fun t => decide (t.ticksLeft ≤ 1))

/-- R189: the coming tick ends the reply to RSET. -/
def State.resetEnds (s : State) : Bool :=
  s.port.reply.any (fun t => t.resets && decide (t.ticksLeft ≤ 1) && decide (t.toSend.length ≤ 1))

/-- R170, R44: the characters whose stop bits end at the coming tick. -/
def State.charsReceived (s : State) : List TickEvent :=
  (s.controlSample.2.map TickEvent.controlChar).toList ++
    allRefs.filterMap (fun r => (s.wordSample r).2.map (TickEvent.wordChar r))

/-- R64, R187: what the coming tick brings; the reset at the end of an RSET reply leaves nothing else to be seen, and the phase count begins at 0 at that tick. -/
def State.tickEvents (s : State) : List TickEvent :=
  if s.resetEnds then [.charSent]
  else
    (if s.charEnds then [.charSent] else []) ++ s.charsReceived ++
      (if s.counter.length ≤ s.counter.phase + 1 then [.epoch] else [])

/-- R64, R194, R195: a tick passes: the phase count and the strobes, the character on the transmit line, the receivers and their lines. -/
def State.passTick (s : State) : State :=
  { s.reach (s.counter.phase + 1) with
    port := { s.port with reply := s.port.reply.map (fun t => { t with ticksLeft := t.ticksLeft - 1 }) },
    receivers := s.sampledReceivers, lines := s.lines.advanced }

/-- One of the things that a tick brings. -/
def State.tickEvent (s : State) : TickEvent → State
  | .charSent =>
    match s.port.reply with
    | none => s
    | some t => s.nextChar t
  | .controlChar ch => s.receiveChar ownerOf ch
  | .wordChar r ch => s.receiveWordChar r ch
  | .epoch => s.localEpoch

/-- R187, R195: one tick of the station frequency; the things that it brings are taken in a free order (log 5). -/
def State.tick (s : State) : State :=
  match s.tickEvents with
  | [] => s.passTick
  | [e] => s.passTick.tickEvent e
  | es => (interleave s.freeNow es []).foldl State.tickEvent s.passTick.countFree

/-- What the part does by itself; while reset is asserted nothing moves. -/
def State.idle (s : State) : State :=
  if s.resetHeld then s else if s.segmentDue then s.segmentPoint else s.tick

end Sys2Proof.Machine
end

