-- ==== Sys2Proof/Safety.lean ====
section
/-! DEFINITION. Safety.lean: the laws of the part that the manual names, as predicates of State, and the words in which the statements speak of commands and replies. -/

namespace Sys2Proof.Machine

/-- R180: the notice list holds no two entries of the same kind. -/
def NoticeList.distinct (l : NoticeList) : Prop := (l.entries.map (fun e => e.data.kind)).Nodup

/-- R180: every count is 1..255. -/
def NoticeList.counted (l : NoticeList) : Prop := ∀ e ∈ l.entries, 1 ≤ e.count ∧ e.count ≤ 255

/-- R180, R186: the mask names kinds 1 to 15 only. -/
def NoticeList.maskFits (l : NoticeList) : Prop := NoticeKind.reset ∉ l.mask

/-- R61: a selected reference is GOOD. -/
def State.selectedGood (s : State) : Prop := ∀ r, s.selector.selected = some r → (s.ref r).state = .good

/-- R22, R46: the label's minute lies in the range, and its second is 0..60. -/
def Label.inRange (l : Label) : Prop := 1440 ≤ l.minute ∧ l.minute ≤ lastMinute ∧ l.second ≤ 60

/-- R22: while the time status is SET the label lies in the range. -/
def State.labelInRange (s : State) : Prop := ∀ l, s.time.label = some l → l.inRange

/-- R170: the receive buffer never holds more than 96 characters. -/
def Port.bounded (p : Port) : Prop := p.buffer.length ≤ 96

/-- R121: the parity bits of a record are those of its own fields. -/
def Record.parityHolds (r : Record) : Prop := r.parity = parityOf r.fields

/-- R131: a record in AIR bears no stale mark. -/
def State.airUnmarked (s : State) : Prop := ∀ r, s.keyer.air = some r → r.stale = false

/-- R67: the lock run never exceeds 4 and the excursion count never holds 3. -/
def Discipline.counted (d : Discipline) : Prop := d.lockRun ≤ 4 ∧ d.excursions ≤ 2

/-- R149: the verdict run saturates at 15. -/
def Chains.runFits (x : Chains) : Prop := x.verdictRun ≤ 15

/-- R155: at most four finished intervals are kept. -/
def Monitor.bounded (m : Monitor) : Prop := m.intervals.length ≤ 4

/-- R64: the bounds that keep every local second within 5,000,000..14,999,999 ticks: of the counter, the delays (R38), J (R84), the segment length (R141) and the scheduled drops (R2, R3). -/
def State.secondBounded (s : State) : Prop :=
  s.counter.phase ≤ 14999999 ∧ 5000000 ≤ s.counter.length ∧ s.counter.length ≤ 14999999 ∧
    (∀ r, (s.ref r).delay ≤ 50000) ∧
    (s.disc.settings.j ≤ 1000 ∧ ∀ d, s.disc.staged = some d → d.j ≤ 1000) ∧
    (s.keyer.active.segment ≤ 12500 ∧ ∀ e, s.keyer.staged = some e → e.segment ≤ 12500) ∧
    (∀ d ∈ s.keyer.schedule, d.start + d.duration ≤ 5000000) ∧
    (∀ c, s.disc.lastApplied = some c → -5000000 ≤ c ∧ c ≤ 4999999)

/-- R22, R34, R45: the label lies in the range, and the seconds of a pending load's target and of the held words are 0..60. -/
def State.timeBounded (s : State) : Prop :=
  s.labelInRange ∧ (∀ p, s.time.pending = some p → p.target.second ≤ 60) ∧
    (∀ r w, (s.ref r).held = some w → w.second ≤ 60)

/-- R121: every record held, in NEXT or in AIR, has the parity of its own fields; and a record in AIR bears no stale mark (R130). -/
def State.recordsHold (s : State) : Prop :=
  (∀ r, s.nextRecord = some r → r.parityHolds) ∧ (∀ r, s.keyer.air = some r → r.parityHolds) ∧ s.airUnmarked

/-- R180: the laws of the notice list. -/
def NoticeList.lawful (l : NoticeList) : Prop := l.distinct ∧ l.counted ∧ l.maskFits

/-- R61: r is the best GOOD reference: GOOD, and before every other GOOD reference by priority value, then by number. -/
def State.isBest (s : State) (r : RefNo) : Prop :=
  (s.ref r).state = .good ∧
    ∀ q, (s.ref q).state = .good → q ≠ r →
      (s.ref r).priority < (s.ref q).priority ∨ ((s.ref r).priority = (s.ref q).priority ∧ r < q)

/-- R163: the target of a PREPARING changeover is the chain that is not on air. -/
def State.targetIsOther (s : State) : Prop := ∀ t o, s.chains.changeover = .preparing t o → t = s.chains.onAir.other

/-- R92, R102: the law of the ZONE slots: taken in order of effective minute the active ones alternate, the first opposite to the zone in force; no two share an effective minute; and while the time is SET none is due yet. -/
def State.zoneScheduleHolds (s : State) : Prop :=
  alternates s.time.zone (zoneSchedule (slotList s.slots)) = true ∧
    (∀ j k x y, s.slot j = some x → s.slot k = some y → j ≠ k → x.state.active = true → y.state.active = true →
      x.content.kind = .zone → y.content.kind = .zone → x.content.minute ≠ y.content.minute) ∧
    (∀ l k x, s.time.label = some l → s.slot k = some x → x.state.active = true → x.content.kind = .zone →
      l.minute < x.content.minute)

/-- R88, R91, R100: the law of the LEAP slots: an active one names the last day of a month in the range, and no two of them the same day; while the time is SET a COMMITTED one names the current minute or the next and every other active one a later minute than the current; none is COMMITTED while the time is UNSET; and at most one is COMMITTED. -/
def State.leapSlotsHold (s : State) : Prop :=
  (∀ k x d dir w, s.slot k = some x → x.state.active = true → x.content = .leap d dir w →
    isMonthEnd d = true ∧ d ≤ 73047) ∧
  (∀ j k x y, s.slot j = some x → s.slot k = some y → j ≠ k → x.state.active = true → y.state.active = true →
    x.content.kind = .leap → y.content.kind = .leap → x.content.minute ≠ y.content.minute) ∧
  (∀ k x, s.slot k = some x → x.content.kind = .leap →
    (x.state = .committed →
      ∃ l, s.time.label = some l ∧ (x.content.minute = l.minute ∨ x.content.minute = l.minute + 1)) ∧
    (∀ l, s.time.label = some l → (x.state = .armed ∨ x.state = .announcing) → l.minute < x.content.minute)) ∧
  (∀ j k x y, s.slot j = some x → s.slot k = some y → x.state = .committed → y.state = .committed →
    x.content.kind = .leap → y.content.kind = .leap → j = k)

/-- R122: the symbols of a record: one for each second of its minute, MINUTE first and a MARK for every other second. -/
def Record.symbolsHold (r : Record) : Prop :=
  r.symbols.length = r.length ∧ r.symbols[0]? = some .minute ∧
    ∀ n, 1 ≤ n → n < r.length → ∃ a b, r.symbols[n]? = some (.mark a b)

/-- R137: the law of FULL keying. While the mode is FULL the time is SET, AIR holds a record whose K and length are those of the minute being keyed, and the discipline state is ACQUIRE only in its entry second, which was keyed before. It rests on two more: both records have the symbols of their seconds, and a record in NEXT without the stale mark is for the coming minute, for which no LEAP slot is then still to commit (R132). -/
def State.fullHolds (s : State) : Prop :=
  (s.keyer.mode = .full →
    (∃ l r, s.time.label = some l ∧ s.keyer.air = some r ∧ r.keyed = l.minute ∧
      r.length = minuteLength s.slots l.minute) ∧
    (s.disc.state = .acquire → s.disc.entrySecond = true)) ∧
  (∀ r, (s.nextRecord = some r ∨ s.keyer.air = some r) → r.symbolsHold) ∧
  (∀ l r, s.time.label = some l → s.nextRecord = some r → r.stale = false →
    r.keyed = l.minute + 1 ∧
      ∀ k x, s.slot k = some x → x.content.kind = .leap → (x.state = .armed ∨ x.state = .announcing) →
        x.content.minute ≠ r.keyed)

/-- R85: the law of keyed seconds: a second in which drops are keyed runs to within J of the nominal length. It rests on R72: outside its entry second ACQUIRE keys nothing; and the phase count never passes the running length. -/
def State.keyedSecondHolds (s : State) : Prop :=
  s.secondBounded ∧ s.counter.phase ≤ s.counter.length ∧
    (s.keyer.mode = .quiet → s.keyer.schedule = []) ∧
    (s.keyer.mode ≠ .quiet → s.disc.state = .acquire → s.disc.entrySecond = true) ∧
    (s.keyer.schedule ≠ [] →
      10000000 ≤ s.counter.length + s.disc.settings.j ∧ s.counter.length ≤ 10000000 + s.disc.settings.j)

/-! ### The monitor's places -/

/-- R155: an interval lies within the tolerance of a place, in its start and in its duration. -/
abbrev Interval.fits (i : Interval) (tolerance start duration : Nat) : Prop :=
  (i.start - start).natAbs ≤ tolerance ∧ ((i.duration : Int) - duration).natAbs ≤ tolerance

/-! ### Selection and keying -/

/-- R62, R68: t is s after an evaluation of the selector made on the notices n. A selection left as it was posts nothing and moves nothing; a changed one posts SELECT, and moves the discipline controller by the table of R68, which posts DISC_STATE where the state changes. -/
def State.tookSelection (t s : State) (n : NoticeList) (cause : SelCause) (label : Option Label) : Prop :=
  (t.selector.selected = s.selector.selected → t.disc = s.disc ∧ t.notices = n) ∧
  (t.selector.selected ≠ s.selector.selected →
    ∀ (d : Discipline) (m : NoticeList), d = { s.disc with excursions := 0 } →
      m = n.post (.select s.selector.selected t.selector.selected t.selector.mode cause) label →
      (s.disc.state = .free → t.selector.selected = none → t.disc = d ∧ t.notices = m) ∧
      (s.disc.state = .free → t.selector.selected ≠ none →
        t.disc = { d with state := .acquire, entrySecond := true, lockRun := 0 } ∧
          t.notices = m.post (.discState .free .acquire t.selector.selected .selected) label) ∧
      (s.disc.state = .acquire → t.selector.selected = none →
        t.disc = { d with state := .free, lockRun := 0, entrySecond := false } ∧
          t.notices = m.post (.discState .acquire .free none .selectionLost) label) ∧
      (s.disc.state = .acquire → t.selector.selected ≠ none → t.disc = { d with lockRun := 0 } ∧ t.notices = m) ∧
      (s.disc.state = .track → t.selector.selected = none →
        t.disc =
            { d with state := .holdover, elapsed := 0, h1Passed := false, holdoverRef := s.selector.selected } ∧
          t.notices = m.post (.discState .track .holdover none .selectionLost) label) ∧
      (s.disc.state = .holdover → t.selector.selected = none →
        t.disc = { d with firstAwaited := false } ∧ t.notices = m) ∧
      ((s.disc.state = .track ∨ s.disc.state = .holdover) → t.selector.selected ≠ none →
        t.disc = { d with firstAwaited := true } ∧ t.notices = m))

/-- R50, R54: no review at the coming epoch changes the state of a reference. -/
def State.reviewsChangeNone (s : State) : Prop :=
  ∀ r, (s.ref r).state = .off ∨ (s.ref r).reviewPending = false ∨ s.disc.stepped = true ∨
    ((s.ref r).move ((s.ref r).classify s.disc.settings.w)).2 = none

/-- R138: t keys in this mode, with the notices n and, where it was another mode before, KEY_MODE with this cause. -/
def State.keysFrom (t : State) (before : KeyMode) (n : NoticeList) (mode : KeyMode) (cause : KeyCause)
    (label : Option Label) : Prop :=
  t.keyer.mode = mode ∧
    t.notices = (if before = mode then n else n.post (.keyMode before mode cause) label)

/-! ### Captures -/

/-- R41, R49: a transition in the selected polarity reaches the selected reference: reset is not asserted, the reference is not OFF and its edge line stands at the other level. -/
def State.meetsEdge (s : State) (r : RefNo) : Prop :=
  s.resetHeld = false ∧ s.pins.refe[r] ≠ levelAfter (s.ref r).polarity ∧ (s.ref r).state ≠ .off ∧
    s.selector.selected = some r

/-- R42: the offset of an edge of reference r latched now. -/
def State.offsetNow (s : State) (r : RefNo) : Int := offsetOf ((s.counter.phase : Int) - (s.ref r).delay)

/-- R65: t is what a correction c leaves of the second that runs in s: it goes on to the length asked for, or it ends at once and a nominal second begins. -/
def State.corrects (t s : State) (c : Int) : Prop :=
  ((s.counter.phase : Int) < 10000000 + c →
    (t.counter.length : Int) = 10000000 + c ∧ t.counter.phase = s.counter.phase) ∧
  (10000000 + c ≤ (s.counter.phase : Int) →
    t.counter = { phase := 0, length := 10000000 } ∧
      t.disc.lastApplied = some ((s.counter.phase : Int) - 10000000))

/-- R31, R33, R76: the pending load that a capture of reference r with its word leaves in ACQUIRE. -/
def State.loadAfter (s : State) (r : RefNo) : Option PendingLoad :=
  match (s.ref r).held with
  | none => s.time.pending
  | some w =>
    match s.loadTarget w (sideOf ((s.counter.phase : Int) - (s.ref r).delay)) (s.ref r).mask with
    | some g => some { source := .reference r, target := g }
    | none => s.time.pending

/-! ### UART lines -/

/-- R195: the levels of a character on a line, tick by tick: its start bit, its eight data bits with the least significant first, and its stop bit, low where the frame is in error. -/
def frameLevels (bitTicks : Nat) (c : Char) (framingError : Bool) : List Level :=
  (List.range 9).flatMap (fun i => List.replicate bitTicks (charBit c i)) ++
    List.replicate bitTicks (if framingError then .low else .high)

/-- A receiver after it has sampled these levels one after another, and the characters that it received. -/
def Receiver.feed (bitTicks : Nat) : Receiver → List Level → Receiver × List RxChar
  | x, [] => (x, [])
  | x, l :: ls =>
    let y := x.sample bitTicks l
    let z := y.1.feed bitTicks ls
    (z.1, y.2.toList ++ z.2)

/-- R175: the ticks that the reply in transmission still occupies the line. -/
def State.replyTicks (s : State) : Nat :=
  match s.port.reply with
  | none => 0
  | some t => (t.toSend.length - 1) * s.port.speed.charTicks + t.ticksLeft

/-! ### Commands and replies -/

/-- The port can take a command: reset is not asserted and no reply is in transmission (R172, R187). -/
def State.lineFree (s : State) : Prop := s.resetHeld = false ∧ s.port.reply = none

/-- s with the port hunting and the reply to command c in transmission, nothing else changed (R170, R174). -/
def State.replied (s : State) (c : Command) (status : Status) (fields : List Text) : State :=
  s.hunting.startReply (replyText (commandWord c) (statusText status) fields) false

/-- The table's row of a control command. -/
def Command.row : Command → List Text → Instr
  | .stat => .stat | .sett => .sett | .refc => .refc | .refs => .refs | .selc => .selc | .disc => .disc
  | .zonc => .zonc | .annw => .annw | .annr => .annr | .annc => .annc | .keyc => .keyc | .outc => .outc
  | .monc => .monc | .monr => .monr | .recr => .recr | .mntc => .mntc | .note => .note | .nmsk => .nmsk
  | .rset => .rset

/-- R173, 10.2: the body of a command record. -/
def commandBody (c : Command) (fields : List Text) : Text :=
  match fields with
  | [] => commandWord c
  | f :: fs => commandWord c ++ ' ' :: (f ++ commaFields fs)

/-- 10.2: a command record before its carriage return. -/
def commandRecord (c : Command) (fields : List Text) : Text :=
  ':' :: commandBody c fields ++ '*' :: checkText (commandBody c fields)

/-- The events in which the port receives characters one after another. -/
def receptions (t : Text) : List Instr := t.map (fun c => .controlCharacterReceived { code := c, framingError := false })

/-- The outcome of events taken one after another. -/
def execAll : List Instr → State → Out
  | [], s => .next s
  | i :: is, s =>
    match exec i s with
    | .next t => execAll is t
    | o => o

/-- R181: the notice list holds an entry with this data and label. -/
def State.lists (s : State) (d : NoticeData) (label : Option Label) : Prop :=
  ∃ e ∈ s.notices.entries, e.data = d ∧ e.label = label

end Sys2Proof.Machine
end

