-- ==== Sys2Proof/WellFormed.lean ====
section
/-! DEFINITION. WellFormed.lean: which commands a sender can really send: their characters are codes of eight bits, and a control record fits the line's form (R170, R172, R173). exec is total and does not ask for it (log 38). -/

namespace Sys2Proof

/-- R195: a character of the line is an eight-bit code. -/
def isCode (c : Char) : Bool := decide (c.toNat < 256)

/-- R170, R195: a printable character that the receive buffer takes: space through tilde, other than ':'. -/
def isStoredChar (c : Char) : Bool := decide (32 ≤ c.toNat) && decide (c.toNat ≤ 126) && c != ':'

/-- R172, R173: a character that can stand in a field: stored, and neither the field separator nor the '*' that ends the body. -/
def isFieldChar (c : Char) : Bool := isStoredChar c && c != ',' && c != '*'

/-- How many characters the fields take with the commas between them. -/
def fieldsLength (fields : List Text) : Nat := (fields.map List.length).sum + (fields.length - 1)

/-- R170, R172: a control record with a four-letter word and these fields fits in the 95 characters held before the carriage return, and at least one character follows the word's space when fields are written. -/
def fieldsWf (fields : List Text) : Bool :=
  fields.all (fun f => f.all isFieldChar) &&
    (fields.isEmpty || (decide (0 < fieldsLength fields) && decide (9 + fieldsLength fields ≤ 95)))

/-- R170: characters that a receive buffer can hold from ':' onward. -/
def recordWf (chars : Text) : Bool :=
  match chars with
  | [] => false
  | c :: rest => c == ':' && rest.all isStoredChar && decide (rest.length ≤ 94)

/-- Whether a command can be sent. -/
def Instr.wf : Instr → Bool
  | .stat f => fieldsWf f
  | .sett f => fieldsWf f
  | .refc f => fieldsWf f
  | .refs f => fieldsWf f
  | .selc f => fieldsWf f
  | .disc f => fieldsWf f
  | .zonc f => fieldsWf f
  | .annw f => fieldsWf f
  | .annr f => fieldsWf f
  | .annc f => fieldsWf f
  | .keyc f => fieldsWf f
  | .outc f => fieldsWf f
  | .monc f => fieldsWf f
  | .monr f => fieldsWf f
  | .recr f => fieldsWf f
  | .mntc f => fieldsWf f
  | .note f => fieldsWf f
  | .nmsk f => fieldsWf f
  | .rset f => fieldsWf f
  | .rsetResetTaken _ _ => true
  | .recordNotTaken chars overlong _ => recordWf chars && (!overlong || chars.length == 95)
  | .overrun chars => recordWf chars
  | .restart => true
  | .replySent => true
  | .resetAsserted => true
  | .resetReleased _ _ => true
  | .localEpoch => true
  | .timeEnd => true
  | .holdoverLimitH1 => true
  | .holdoverExpiry => true
  | .referenceEdge _ _ => true
  | .wordCompletion _ none => true
  | .wordCompletion _ (some w) => w.length == 15 && w.all (fun c => isCode c && c != '#' && c != '\r')
  | .monitorTransition _ => true
  | .chainReady _ _ => true
  | .envelopeSegment => true
  | .controlCharacterReceived ch => isCode ch.code
  | .wordCharacterReceived _ ch => isCode ch.code

end Sys2Proof
end

