-- ==== Sys2Proof/Certificates/Slice0/Obligations.lean ====
section
/-! DEFINITION. Certificates/Slice0/Obligations.lean: the statements for the provers.
Statements about a queue, an empty queue and coinciding events rest on the model's choices named in their docstrings. -/

open Sys2Proof Sys2Proof.Machine

/-! ### The machine -/

/-- One step with command c in front of the queue is exec c on the state with the queue's rest (the queue is the model's, log 29). -/
def Obligations.StepTakesTheFrontCommand : Prop :=
  ∀ (c : Instr) (rest : List Instr) (s : State),
    step { s with pending := c :: rest } = exec c { s with pending := rest }

/-- No command ends in a fault or a refusal, and none touches the queue of waiting commands (the queue is the model's, log 29; that a reset keeps it is the model's choice, log 34). -/
def Obligations.EveryCommandRunsAndKeepsTheQueue : Prop :=
  ∀ (c : Instr) (s : State), ∃ t, exec c s = .next t ∧ t.pending = s.pending

/-- R64, R144, R194, R195, with the model's choice that an empty queue is one tick (log 5): a segment point that is due is taken first; a tick that brings no event raises the phase count, runs the strobes and the character on the transmit line down by one tick, and lets every receiver sample its line. A strobe is high in the first and the second tick after the tick of a change. While reset is asserted nothing moves. R44, R64, R170, R175, R189, with the model's choice of what a tick is (log 5): a tick brings the epoch when the phase count reaches the running length, a character of a line when its stop bit ends, and the end of the character on the transmit line; what it brings alone is that row of the table on the state in which the tick has passed; what it brings together is taken in some order; the tick that ends the reply to RSET brings nothing else. -/
def Obligations.EmptyQueueIsOneTick : Prop :=
  (∀ s : State, s.pending = [] →
     (s.resetHeld = true → step s = .next s) ∧
     (s.segmentDue = true → step s = exec .envelopeSegment s) ∧
     (s.resetHeld = false → s.segmentDue = false → s.tickEvents = [] →
       step s = .next
         { s with
           counter := { s.counter with phase := s.counter.phase + 1 },
           strobes := { one := s.strobes.one - 1, two := s.strobes.two - 1 },
           port :=
             { s.port with reply := s.port.reply.map (fun t => { t with ticksLeft := t.ticksLeft - 1 }) },
           receivers :=
             { control := (s.receivers.control.sample s.port.speed.bitTicks (s.lines.crx.headD .high)).1,
               words :=
                 Vector.ofFn (fun r => ((s.receivers.words[r]).sample 1042 ((s.lines.refw[r]).headD .high)).1) },
           lines := { crx := s.lines.crx.tail, refw := s.lines.refw.map List.tail } }) ∧
     (∀ c, s.strobe c = .high ↔ s.strobes.get c = 1 ∨ s.strobes.get c = 2)) ∧
  (∀ s : State, s.pending = [] → s.resetHeld = false → s.segmentDue = false →
     (s.resetEnds = false →
       (TickEvent.epoch ∈ s.tickEvents ↔ s.counter.length ≤ s.counter.phase + 1) ∧
       (TickEvent.charSent ∈ s.tickEvents ↔ ∃ t, s.port.reply = some t ∧ t.ticksLeft ≤ 1) ∧
       (∀ ch, TickEvent.controlChar ch ∈ s.tickEvents ↔
         (s.receivers.control.sample s.port.speed.bitTicks (s.lines.crx.headD .high)).2 = some ch) ∧
       (∀ r ch, TickEvent.wordChar r ch ∈ s.tickEvents ↔
         ((s.receivers.words[r]).sample 1042 ((s.lines.refw[r]).headD .high)).2 = some ch)) ∧
     (s.resetEnds = true → s.tickEvents = [.charSent] ∧
       step s = exec (.rsetResetTaken s.pins.bs1 s.pins.bs0) s.passTick) ∧
     (s.tickEvents = [.epoch] → s.counter.phase + 1 = s.counter.length → step s = exec .localEpoch s.passTick) ∧
     (∀ ch, s.tickEvents = [.controlChar ch] → step s = exec (.controlCharacterReceived ch) s.passTick) ∧
     (∀ r ch, s.tickEvents = [.wordChar r ch] → step s = exec (.wordCharacterReceived r ch) s.passTick) ∧
     (∀ t, s.tickEvents = [.charSent] → s.port.reply = some t → t.toSend.length ≤ 1 →
       step s = exec .replySent s.passTick) ∧
     (2 ≤ s.tickEvents.length →
       ∃ order : List TickEvent, order.Perm s.tickEvents ∧ step s = .next (order.foldl State.tickEvent s.passTick.countFree)))

/-! ### Reset -/

/-- R64, R187, with the ready levels of the pins while held and the inputs and the queue kept (log 34): asserting the reset input holds the part, empties the notice list, cuts the reply, any record and any character, begins the phase count at 0 and gives every block its reset value; the outputs present 1000 with no strobe, chain 1 is named and ATTN is negated. While it is asserted no command, character, word, epoch or segment point changes anything, and a transition of an input changes that input's level alone. -/
def Obligations.ResetAssertedHoldsThePart : Prop :=
  ∀ s : State,
    (∃ t, exec .resetAsserted s = .next t ∧ t.resetHeld = true ∧
      t.counter = { phase := 0, length := 10000000 } ∧ t.receivers = Receivers.reset ∧
      t.notices = { entries := [], mask := [] } ∧ t.attn = .low ∧ t.chg = .low ∧ t.ctx = .high ∧
      (∀ c, t.ampWord c = 1000#10 ∧ t.strobe c = .low) ∧
      t.port.reply = none ∧ t.port.receive = .hunting ∧ t.port.buffer = [] ∧
      t.port.overlong = false ∧ t.port.badChar = false ∧
      t.time = { label := none, pending := none, zone := .standard, standardOffset := 0, summerOffset := 0 } ∧
      (∀ r, t.ref r = Reference.reset r) ∧ t.selector = { mode := .autoRevert, selected := none } ∧
      t.disc = Discipline.reset ∧ (∀ k, t.slot k = none) ∧ t.nextRecord = none ∧ t.keyer = Keyer.reset ∧
      t.chains = Chains.reset s.pins.rdy ∧ t.monitor = Monitor.reset ∧ t.pins = s.pins ∧
      t.lines = s.lines ∧ t.pending = s.pending) ∧
    (s.resetHeld = true →
      (∀ c f, exec (Command.row c f) s = .next s) ∧ (∀ ch, exec (.controlCharacterReceived ch) s = .next s) ∧
      (∀ ch m b, exec (.recordNotTaken ch m b) s = .next s) ∧ (∀ ch, exec (.overrun ch) s = .next s) ∧
      exec .restart s = .next s ∧ exec .replySent s = .next s ∧
      (∀ bs1 bs0, exec (.rsetResetTaken bs1 bs0) s = .next s) ∧
      (∀ r e, exec (.referenceEdge r e) s =
        .next { s with pins := { s.pins with refe := s.pins.refe.set r (levelAfter e) } }) ∧
      (∀ e, exec (.monitorTransition e) s = .next { s with pins := { s.pins with mon := levelAfter e } }) ∧
      (∀ c l, exec (.chainReady c l) s = .next { s with pins := { s.pins with rdy := s.pins.rdy.set c l } }) ∧
      (∀ r w, exec (.wordCompletion r w) s = .next s) ∧ (∀ r ch, exec (.wordCharacterReceived r ch) s = .next s) ∧
      exec .localEpoch s = .next s ∧ exec .timeEnd s = .next s ∧ exec .holdoverLimitH1 s = .next s ∧
      exec .holdoverExpiry s = .next s ∧ exec .envelopeSegment s = .next s)

/-- R64, R176, R187, R188, R194: the release of the reset input, with the values the blocks' tables give after reset, the speed of the baud-select pins, the ready levels of the pins, idle receivers (log 40), one strobe on each output in the first two ticks after it, and the one RESET entry. -/
def Obligations.ResetReleaseGivesTheResetValues : Prop :=
  ∀ (s : State) (bs1 bs0 : Level), s.resetHeld = true →
    ∃ t, exec (.resetReleased bs1 bs0) s = .next t ∧ t.resetHeld = false ∧
      t.counter = { phase := 0, length := 10000000 } ∧
      t.time = { label := none, pending := none, zone := .standard, standardOffset := 0, summerOffset := 0 } ∧
      (∀ r, t.ref r =
        { polarity := .rising, delay := 0, mask := { sec := true, min := true, hour := true, date := true },
          lossMode := .normal, priority := r.val + 1, state := .lost, goodRun := 0, faultCount := 0,
          missCount := 0, held := none, assembly := none,
          obs := { edges := 0, offset := none, wordMissing := false, disagreed := false, excursion := false },
          jitterBase := none, last := none, review := none, reviewPending := true }) ∧
      t.selector = { mode := .autoRevert, selected := none } ∧
      t.disc =
        { state := .free, lockRun := 0, excursions := 0, elapsed := 0, h1Passed := false, holdoverRef := none,
          expired := false, entrySecond := false, firstAwaited := false, stepped := false, lastApplied := none,
          settings := { j := 100, w := 50, b := 2, s := 10000, h1 := 3600, h2 := 86400, expiry := .bare },
          staged := none } ∧
      (∀ k, t.slot k = none) ∧ t.nextRecord = none ∧
      t.keyer =
        { air := none, mode := .quiet,
          active := { depth := 150, segment := 2500, shape := #v[50, 150, 300, 500, 700, 850, 950, 1000] },
          staged := none, schedule := [], dropIndex := 0, phase := .idle, amplitude := 1000 } ∧
      t.chains =
        { maintenance := .inhibit, pendingMaintenance := none, onAir := .one, changeover := .steady,
          autoArm := .armed, standby := .hot, threshold := 3, verdictRun := 0,
          gating := { one := .keyed, two := .keyed }, ready := s.pins.rdy } ∧
      t.monitor.settings = { enable := true, tolerance := 20000, delay := 0 } ∧ t.monitor.staged = none ∧
      t.monitor.source = .normal ∧ t.monitor.openInterval = none ∧ t.monitor.intervals = [] ∧
      t.monitor.observation = none ∧ t.monitor.record = none ∧ t.monitor.isNew = false ∧
      t.monitor.overwritten = false ∧
      t.port =
        { receive := .hunting, buffer := [], overlong := false, badChar := false, reply := none,
          speed := t.port.speed } ∧
      (bs1 = .low → bs0 = .low → t.port.speed = .b9600) ∧ (bs1 = .low → bs0 = .high → t.port.speed = .b19200) ∧
      (bs1 = .high → bs0 = .low → t.port.speed = .b38400) ∧ (bs1 = .high → bs0 = .high → t.port.speed = .b115200) ∧
      t.notices = { entries := [{ data := .reset .pin t.port.speed, count := 1, label := none }], mask := [] } ∧
      t.receivers =
        { control := { level := .high, reception := none },
          words := Vector.replicate 3 { level := .high, reception := none } } ∧
      t.attn = .high ∧ (∀ c, t.ampWord c = 1000#10 ∧
          ∀ n, (t.reach n).strobe c = .high ↔ 1 ≤ n ∧ n ≤ 2)

/-- R175, R189: RSET with no field is answered OK, and nothing is reset before the end of that reply; RSET with a field is refused with RANGE. The end of the last stop bit of an RSET reply, told by either event (the model's choice, log 21), resets the part as a released pin reset does, with source COMMAND, at the speed of the pins; the end of any other reply frees the port and changes nothing else. -/
def Obligations.RsetRepliesBeforeItResets : Prop :=
  (∀ s : State, s.lineFree →
     exec (.rset []) s = .next (s.hunting.startReply "=RSET OK*34\r\n".toList true) ∧
     ∀ fs : List Text, (∃ f ∈ fs, f ≠ []) → exec (.rset fs) s = .next (s.replied .rset .range [])) ∧
  (∀ (s : State) (r : Transmission), s.port.reply = some r → s.resetHeld = false →
     (r.resets = false → exec .replySent s = .next { s with port := { s.port with reply := none } }) ∧
     (r.resets = true →
       exec .replySent s = exec (.rsetResetTaken s.pins.bs1 s.pins.bs0) s ∧
       ∀ bs1 bs0 : Level, ∃ t, exec (.rsetResetTaken bs1 bs0) s = .next t ∧ t.resetHeld = false ∧
         t.counter = { phase := 0, length := 10000000 } ∧ t.time = State.reset.time ∧
         (∀ r, t.ref r = Reference.reset r) ∧ t.selector = State.reset.selector ∧
         t.disc = Discipline.reset ∧ (∀ k, t.slot k = none) ∧ t.nextRecord = none ∧ t.keyer = Keyer.reset ∧
         t.chains = Chains.reset s.pins.rdy ∧ t.monitor = Monitor.reset ∧ t.port = Port.reset (speedOf bs1 bs0) ∧
         t.attn = .high ∧ (∀ c, t.ampWord c = 1000#10 ∧
           ∀ n, (t.reach n).strobe c = .high ↔ 1 ≤ n ∧ n ≤ 2) ∧
         t.notices =
           { entries := [{ data := .reset .command (speedOf bs1 bs0), count := 1, label := none }], mask := [] }))

/-! ### The control port -/

/-- R170: what the port does with each character, except those that restart or complete a record; that a framing error is looked at before ':' and carriage return is the model's reading (log 24). -/
def Obligations.PortTakesCharacters : Prop :=
  ∀ (s : State) (c : Char) (e : Bool), s.resetHeld = false →
    (s.port.receive = .hunting → (c = ':' → e = false →
      exec (.controlCharacterReceived { code := c, framingError := e }) s = .next
        { s with
          port := { s.port with receive := .assembling, buffer := [':'], overlong := false, badChar := false } }) ∧
      ((c ≠ ':' ∨ e = true) → exec (.controlCharacterReceived { code := c, framingError := e }) s = .next s)) ∧
    (s.port.receive = .assembling →
      (e = true ∨ (c ≠ '\r' ∧ (c.toNat < 32 ∨ 126 < c.toNat)) →
        exec (.controlCharacterReceived { code := c, framingError := e }) s =
          .next { s with port := { s.port with badChar := true } }) ∧
      (e = false → c ≠ ':' → 32 ≤ c.toNat → c.toNat ≤ 126 →
        (s.port.buffer.length < 95 →
          exec (.controlCharacterReceived { code := c, framingError := e }) s =
            .next { s with port := { s.port with buffer := s.port.buffer ++ [c] } }) ∧
        (95 ≤ s.port.buffer.length →
          exec (.controlCharacterReceived { code := c, framingError := e }) s =
            .next { s with port := { s.port with overlong := true } })))

/-- R171: ':' received while a record is being assembled discards it, posts LINK with cause RESTART, and starts a new record; the reply in transmission is untouched. -/
def Obligations.RestartStartsANewRecord : Prop :=
  ∀ s : State, s.resetHeld = false → s.port.receive = .assembling →
    ∃ t, exec .restart s = .next t ∧
      exec (.controlCharacterReceived { code := ':', framingError := false }) s = .next t ∧
      t.port = { s.port with receive := .assembling, buffer := [':'], overlong := false, badChar := false } ∧
      t = { s with port := t.port, notices := s.notices.post (.link .restart) s.time.label }

/-- R172: with the line free, the four checks of a record in their order; a record that fails one is answered '????' and changes nothing else. R175, R185: a record that completes while a reply is in transmission is discarded: the reply goes on, no block changes, and LINK is posted with cause OVERRUN and the record's word, or none for a record without one (log 17). That the buffer is empty and the marks CLEAR afterwards is the model's choice (log 2). -/
def Obligations.CompletedRecordIsCheckedOrOverrun : Prop :=
  (∀ (s : State) (chars body rest : Text) (overlong badChar : Bool), s.lineFree →
     ((overlong = true ∨ badChar = true ∨ '*' ∉ chars.drop 1) →
       exec (.recordNotTaken chars overlong badChar) s =
         .next (s.hunting.startReply (replyText "????".toList "BADFORM".toList []) false)) ∧
     (chars = ':' :: body ++ '*' :: rest → '*' ∉ body → overlong = false → badChar = false →
       (readCheck rest = none ∨ bodyFits body = false →
         exec (.recordNotTaken chars overlong badChar) s =
           .next (s.hunting.startReply (replyText "????".toList "BADFORM".toList []) false)) ∧
       (∀ n, readCheck rest = some n → bodyFits body = true →
         (n ≠ body.foldl (fun x c => x ^^^ c.toNat) 0 →
           exec (.recordNotTaken chars overlong badChar) s =
             .next (s.hunting.startReply (replyText "????".toList "BADCHECK".toList []) false)) ∧
         (n = body.foldl (fun x c => x ^^^ c.toNat) 0 →
           (∀ c, commandWord c ≠ body.takeWhile (fun x => x != ' ')) →
           exec (.recordNotTaken chars overlong badChar) s =
             .next (s.hunting.startReply (replyText "????".toList "UNKNOWN".toList []) false))))) ∧
  (∀ (s : State) (chars body rest : Text), s.resetHeld = false → s.port.reply ≠ none →
     ('*' ∉ body → 1 ≤ (body.takeWhile (fun x => x != ' ')).length →
       (body.takeWhile (fun x => x != ' ')).length ≤ 4 →
       exec (.overrun (':' :: body ++ '*' :: rest)) s =
         .next
           { s with
             port := { s.port with receive := .hunting, buffer := [], overlong := false, badChar := false },
             notices :=
               s.notices.post (.link (.overrun (some (body.takeWhile (fun x => x != ' '))))) s.time.label }) ∧
     (('*' ∉ chars ∨ (chars = ':' :: body ++ '*' :: rest ∧ '*' ∉ body ∧
         ((body.takeWhile (fun x => x != ' ')).length = 0 ∨ 4 < (body.takeWhile (fun x => x != ' ')).length))) →
       exec (.overrun chars) s =
         .next
           { s with
             port := { s.port with receive := .hunting, buffer := [], overlong := false, badChar := false },
             notices := s.notices.post (.link (.overrun none)) s.time.label }))

/-- R172, R173, 10.2, for the row as a completed record (log 1) and the state the port is left in (log 2): for every command and every list of fields that a record can carry, the record received character by character, and its carriage return, is that command's row, whether it is taken or overrun. -/
def Obligations.RecordOnTheLineIsTheCommand : Prop :=
  ∀ (c : Command) (fields : List Text) (s : State), fieldsWf fields = true → s.resetHeld = false →
    s.port.receive = .hunting →
    execAll (receptions (commandRecord c fields ++ ['\r'])) s = exec (Command.row c fields) s

/-- R195: a receiver that is idle on a high line and samples, tick by tick, the start bit, the eight data bits and the stop bit of an eight-bit character gives nothing until the tick after its last one, and at that tick exactly that character, with a framing error where the stop bit was low; the four speeds have the bit times of the table. A falling edge at that tick is the start bit of the next character, and after a low stop bit the line must first be high again. That a stop bit ends at the next falling edge where that comes first is the model's choice (log 40). -/
def Obligations.LineCharacterIsReceived : Prop :=
  (LineSpeed.bitTicks .b9600 = 1042 ∧ LineSpeed.bitTicks .b19200 = 521 ∧ LineSpeed.bitTicks .b38400 = 260 ∧
      LineSpeed.bitTicks .b115200 = 87) ∧
    ∀ (speed : LineSpeed) (c : Char) (e : Bool), c.toNat < 256 →
      let x : Receiver := { level := .high, reception := none }
      let y := x.feed speed.bitTicks (frameLevels speed.bitTicks c e)
      (frameLevels speed.bitTicks c e).length = 10 * speed.bitTicks ∧ y.2 = [] ∧
      (∀ l, (y.1.sample speed.bitTicks l).2 = some { code := c, framingError := e }) ∧
      (y.1.sample speed.bitTicks .high).1 = x ∧
      (e = false →
        (y.1.sample speed.bitTicks .low).1 = { level := .low, reception := some { ticks := 0, bits := [] } }) ∧
      (e = true → (y.1.sample speed.bitTicks .low).1 = { level := .low, reception := none }) ∧
      (∀ n, (x.feed speed.bitTicks (List.replicate n .high)).1 = x ∧
        (x.feed speed.bitTicks (List.replicate n .high)).2 = [])

/-- R175, R177, R195, tick by tick (log 5): the transmit line carries bit i of the character on it during that character's i-th bit time, start bit first, least significant bit first, stop bit last, and idles high; each tick of a reply leaves it one tick less on the line; a character is followed at once by the next, and the last one by a free port; a reply of n characters occupies the line for 10n bit times. -/
def Obligations.ReplyIsSentTickByTick : Prop :=
  ∀ s : State, s.pending = [] → s.resetHeld = false → s.segmentDue = false →
    (s.port.reply = none → s.ctx = .high) ∧
    (∀ text b, (s.startReply text b).replyTicks = text.length * (10 * s.port.speed.bitTicks) ∨ text = []) ∧
    (∀ (c : Char) (rest : Text) (left : Nat) (b : Bool),
      s.port.reply = some { toSend := c :: rest, ticksLeft := left, resets := b } →
      (∀ i j, i < 10 → j < s.port.speed.bitTicks → left + (i * s.port.speed.bitTicks + j) = 10 * s.port.speed.bitTicks →
        (i = 0 → s.ctx = .low) ∧ (i = 9 → s.ctx = .high) ∧
        (1 ≤ i → i ≤ 8 → s.ctx = if c.toNat.testBit (i - 1) then .high else .low)) ∧
      (s.controlSample.2 = none → (∀ r, (s.wordSample r).2 = none) → s.counter.phase + 1 < s.counter.length →
        (1 < left →
          ∃ t, step s = .next t ∧ t.replyTicks + 1 = s.replyTicks ∧
            t.port = { s.port with reply := some { toSend := c :: rest, ticksLeft := left - 1, resets := b } }) ∧
        (left = 1 → ∀ d more, rest = d :: more →
          ∃ t, step s = .next t ∧ t.replyTicks + 1 = s.replyTicks ∧
            t.port =
              { s.port with
                reply := some { toSend := d :: more, ticksLeft := 10 * s.port.speed.bitTicks, resets := b } }) ∧
        (left = 1 → rest = [] → b = false →
          ∃ t, step s = .next t ∧ t.port = { s.port with reply := none } ∧ t.time = s.time ∧ t.disc = s.disc ∧
            t.notices = s.notices) ∧
        (left = 1 → rest = [] → b = true →
          step s = exec (.rsetResetTaken s.pins.bs1 s.pins.bs0) s.passTick)))

/-! ### Notices -/

/-- R181: how the list takes an occurrence. -/
def Obligations.ListTakesAnOccurrence : Prop :=
  ∀ (l : NoticeList) (d : NoticeData) (label : Option Label),
    (d.kind ∈ l.mask → l.post d label = l) ∧
    (d.kind ∉ l.mask → (∀ e ∈ l.entries, e.data.kind ≠ d.kind) →
      l.post d label = { l with entries := l.entries ++ [{ data := d, count := 1, label := label }] }) ∧
    (∀ (a : List Notice) (e : Notice) (b : List Notice), d.kind ∉ l.mask → l.entries = a ++ e :: b →
      e.data.kind = d.kind → (∀ x ∈ a ++ b, x.data.kind ≠ d.kind) →
      l.post d label =
        { l with entries := a ++ { data := d, count := min 255 (e.count + 1), label := label } :: b })

/-- R180: in every step the notice list keeps its laws: no two entries of one kind, counts of 1..255, and RESET never masked. -/
def Obligations.NoticeListStaysLawful : Prop :=
  ∀ s t : State, s.notices.lawful → step s = .next t → t.notices.lawful

/-- R184: NOTE removes and returns the oldest entry, its kind written by name (the model's reading, log 33); an empty list answers NONE; a NOTE with a field removes nothing. -/
def Obligations.NoteRemovesTheOldestEntry : Prop :=
  ∀ s : State, s.lineFree →
    (s.notices.entries = [] → exec (.note []) s = .next (s.replied .note .ok ["NONE".toList])) ∧
    (∀ e rest, s.notices.entries = e :: rest →
      exec (.note []) s = .next
        (({ s with notices := { s.notices with entries := rest } } : State).replied .note .ok
          (kindText e.data.kind :: decimal e.count :: labelOrUnset e.label :: decimal rest.length ::
            noticeFields e.data))) ∧
    (∀ fs : List Text, (∃ f ∈ fs, f ≠ []) → exec (.note fs) s = .next (s.replied .note .range []))

/-- R186: NMSK sets, empties or reports the mask, and changes nothing else; a field that is neither NONE nor a number 1..15, or NONE with another field, is refused with RANGE. -/
def Obligations.NmskSetsTheMask : Prop :=
  ∀ s : State, s.lineFree →
    (exec (.nmsk []) s = .next (s.replied .nmsk .ok s.nmskFields)) ∧
    (exec (.nmsk ["NONE".toList]) s = .next
      (({ s with notices := { s.notices with mask := [] } } : State).replied .nmsk .ok ["NONE".toList])) ∧
    (∀ ks : List NoticeKind, ks ≠ [] → NoticeKind.reset ∉ ks →
      ∃ m : List NoticeKind, (∀ k, k ∈ m ↔ k ∈ ks) ∧ m.Pairwise (fun a b => a.number < b.number) ∧
        exec (.nmsk (ks.map (fun k => decimal k.number))) s = .next
          (({ s with notices := { s.notices with mask := m } } : State).replied .nmsk .ok
            (m.map (fun k => decimal k.number)))) ∧
    (∀ fs : List Text, (∃ t ∈ fs, t ≠ [] ∧ t ≠ "NONE".toList ∧ readWithin 1 15 t = none) →
      exec (.nmsk fs) s = .next (s.replied .nmsk .range [])) ∧
    (∀ fs : List Text, "NONE".toList ∈ fs → (∃ t ∈ fs, t ≠ [] ∧ t ≠ "NONE".toList) →
      exec (.nmsk fs) s = .next (s.replied .nmsk .range []))

/-! ### Reading commands -/

/-- R37, R58, R178, R179, R192, R193: STAT answers the part named, each of the eight with its fields, SUMMARY by default, and REFS one reference's settings, state, jitter base, last review and last capture; both change nothing but the port. A part that is none of the eight, a reference out of range or missing, or a second field of STAT is refused with RANGE. That SUMMARY writes UNSET for both the status and the label is the model's reading (log 19), and that LIST writes kind numbers log 33's. -/
def Obligations.StatAndRefsReport : Prop :=
  ∀ s : State, s.lineFree →
    (exec (.stat []) s = .next (s.replied .stat .ok
      ["SUMMARY".toList, (if s.time.label = none then "UNSET".toList else "SET".toList), labelOrUnset s.time.label,
       discStateText s.disc.state, orNone decimal s.qualityCode, refOrNone s.selector.selected,
       keyModeText s.keyer.mode, maintText s.chains.maintenance, chainText s.chains.onAir,
       changeoverText s.chains.changeover, decimal s.notices.entries.length, yesNo s.monitor.isNew])) ∧
    (exec (.stat ["SUMMARY".toList]) s = exec (.stat []) s) ∧
    (s.time.label = none → exec (.stat ["TIME".toList]) s = .next (s.replied .stat .ok
      ["TIME".toList, "UNSET".toList, "UNSET".toList, [], [], zoneText s.time.zone, signed s.time.standardOffset,
       signed s.time.summerOffset, "UNSET".toList, [], s.pendingField])) ∧
    (∀ l n, s.time.label = some l →
      n = ((l.minute : Int) +
        (match s.time.zone with | .standard => s.time.standardOffset | .summer => s.time.summerOffset)).toNat →
      exec (.stat ["TIME".toList]) s = .next (s.replied .stat .ok
        ["TIME".toList, "SET".toList, labelText l, decimal (l.minute / 1440), decimal ((l.minute / 1440 + 5) % 7 + 1),
         zoneText s.time.zone, signed s.time.standardOffset, signed s.time.summerOffset,
         labelText { minute := n, second := l.second }, decimal ((n / 1440 + 5) % 7 + 1), s.pendingField])) ∧
    ((s.time.pending = none → s.pendingField = "NONE".toList) ∧
      ∀ p, s.time.pending = some p →
        (p.source = .host → s.pendingField = "HOST".toList) ∧
        (∀ r, p.source = .reference r → s.pendingField = decimal (r.val + 1))) ∧
    (exec (.stat ["DISC".toList]) s = .next (s.replied .stat .ok
      ["DISC".toList, selModeText s.selector.mode,
       (match s.selector.mode with | .force r => decimal (r.val + 1) | _ => []), refOrNone s.selector.selected,
       discStateText s.disc.state, decimal s.disc.lockRun, decimal s.disc.excursions, decimal s.disc.elapsed,
       (if s.disc.expired then "SET".toList else "CLEAR".toList), orNone decimal s.qualityCode,
       orEmpty signed s.disc.lastApplied])) ∧
    (exec (.stat ["KEY".toList]) s = .next (s.replied .stat .ok
      ["KEY".toList, (if s.nextRecord.isSome then "SET".toList else "CLEAR".toList),
       orEmpty (fun r => minuteText r.keyed) s.nextRecord, orEmpty (fun r => yesNo r.stale) s.nextRecord,
       keyModeText s.keyer.mode, orNone (fun r => minuteText r.keyed) s.keyer.air,
       orEmpty (fun r => decimal r.length) s.keyer.air])) ∧
    (exec (.stat ["ENV".toList]) s = .next (s.replied .stat .ok
      ["ENV".toList, envelopeImage s.keyer.active, yesNo s.keyer.staged.isSome])) ∧
    (exec (.stat ["STAGED".toList]) s = .next (s.replied .stat .ok
      ["STAGED".toList, orNone envelopeImage s.keyer.staged])) ∧
    (exec (.stat ["CHAIN".toList]) s = .next (s.replied .stat .ok
      ["CHAIN".toList, maintText s.chains.maintenance, orEmpty (fun p => maintText p.mode) s.chains.pendingMaintenance,
       orEmpty (fun p => dueText p.due) s.chains.pendingMaintenance, chainImage s.chains, flagText s.monitor.isNew,
       flagText s.monitor.overwritten, orNone (fun r => verdictText r.verdict) s.monitor.record,
       orEmpty (fun r => minuteText r.minute) s.monitor.record])) ∧
    (exec (.stat ["LIST".toList]) s = .next (s.replied .stat .ok
      ("LIST".toList :: decimal s.notices.entries.length ::
        s.notices.entries.map (fun e => decimal e.data.kind.number)))) ∧
    (∀ f : Text, f ≠ [] → (∀ p, statPartText p ≠ f) → exec (.stat [f]) s = .next (s.replied .stat .range [])) ∧
    (∀ f g : Text, g ≠ [] → exec (.stat [f, g]) s = .next (s.replied .stat .range [])) ∧
    (∀ r : RefNo, exec (.refs [decimal (r.val + 1)]) s = .next (s.replied .refs .ok
      [decimal (r.val + 1), (s.ref r).settingsImage, (s.ref r).stateImage (decide (s.selector.selected = some r)),
       jitterImage (s.ref r).jitterBase, reviewCode (s.ref r).review, orNone captureImage (s.ref r).last])) ∧
    (exec (.refs ["0".toList]) s = .next (s.replied .refs .range [])) ∧
    (exec (.refs ["4".toList]) s = .next (s.replied .refs .range [])) ∧
    (exec (.refs []) s = .next (s.replied .refs .range []))

/-- R95, R127, R128, R192: ANNR answers a slot's record, an EMPTY slot by its number and state alone; RECR answers the record of a store, FIELDS by default, or NONE; both change nothing but the port, and are refused with RANGE out of range. R160: MONR answers a part of the monitor record with the flags as they stood, then clears both flags; the record stays. With no record it answers NONE and both flags 0. -/
def Obligations.StoresAreReported : Prop :=
  (∀ (s : State) (k : SlotNo), s.lineFree →
     (s.slot k = none →
       exec (.annr [decimal (k.val + 1)]) s = .next (s.replied .annr .ok [decimal (k.val + 1), "EMPTY".toList])) ∧
     (∀ st z e w c, s.slot k = some { state := st, content := .zone e z w, carried := c } →
       exec (.annr [decimal (k.val + 1)]) s = .next (s.replied .annr .ok
         [decimal (k.val + 1), slotStateText st, "ZONE".toList, minuteText e, decimal e, zoneText z, decimal w,
          stateOutcomeText st])) ∧
     (∀ st d dir w c, s.slot k = some { state := st, content := .leap d dir w, carried := c } →
       exec (.annr [decimal (k.val + 1)]) s = .next (s.replied .annr .ok
         [decimal (k.val + 1), slotStateText st, "LEAP".toList, dateText (dateOfDay d), decimal d,
          minuteText (d * 1440 + 1439), decimal (d * 1440 + 1439), leapDirText dir, decimal w,
          stateOutcomeText st])) ∧
     (∀ st a b code c, s.slot k = some { state := st, content := .service a b code, carried := c } →
       exec (.annr [decimal (k.val + 1)]) s = .next (s.replied .annr .ok
         [decimal (k.val + 1), slotStateText st, "SERVICE".toList, minuteText a, decimal a, minuteText b, decimal b,
          decimal code, stateOutcomeText st, yesNo c])) ∧
     (exec (.annr ["9".toList]) s = .next (s.replied .annr .range [])) ∧
     (s.nextRecord = none → ∀ f, f = [] ∨ f = ["FIELDS".toList] ∨ f = ["SYMBOLS".toList] →
       exec (.recr ("NEXT".toList :: f)) s = .next (s.replied .recr .ok ["NEXT".toList, "NONE".toList])) ∧
     (s.keyer.air = none → ∀ f, f = [] ∨ f = ["FIELDS".toList] ∨ f = ["SYMBOLS".toList] →
       exec (.recr ("AIR".toList :: f)) s = .next (s.replied .recr .ok ["AIR".toList, "NONE".toList])) ∧
     (∀ r, s.nextRecord = some r → ∀ f, f = [] ∨ f = ["FIELDS".toList] →
       exec (.recr ("NEXT".toList :: f)) s = .next (s.replied .recr .ok
         ["NEXT".toList, minuteText r.composedAt.minute, minuteText r.keyed, minuteText (r.keyed + 1),
          recordImage r r.stale])) ∧
     (∀ r, s.keyer.air = some r → ∀ f, f = [] ∨ f = ["FIELDS".toList] →
       exec (.recr ("AIR".toList :: f)) s = .next (s.replied .recr .ok
         ["AIR".toList, minuteText r.composedAt.minute, minuteText r.keyed, minuteText (r.keyed + 1),
          recordImage r false])) ∧
     (∀ r, s.nextRecord = some r → exec (.recr ["NEXT".toList, "SYMBOLS".toList]) s = .next (s.replied .recr .ok
         ["NEXT".toList, minuteText r.keyed, decimal r.length, channelImage (symbolsA r.symbols),
          channelImage (symbolsB r.symbols)])) ∧
     (exec (.recr []) s = .next (s.replied .recr .range []))) ∧
  (∀ (s : State) (p : MonPart), s.lineFree →
     (s.monitor.record = none →
       exec (.monr [monPartText p]) s = .next (s.replied .monr .ok [['0'], ['0'], "NONE".toList])) ∧
     (∀ r, s.monitor.record = some r →
       exec (.monr [monPartText p]) s = .next
         (({ s with monitor := { s.monitor with isNew := false, overwritten := false } } : State).replied .monr .ok
           (flagText s.monitor.isNew :: flagText s.monitor.overwritten :: monPartFields r p))) ∧
     (exec (.monr []) s = exec (.monr ["SUMMARY".toList]) s) ∧
     (∀ f : Text, f ≠ [] → (∀ p, monPartText p ≠ f) → exec (.monr [f]) s = .next (s.replied .monr .range [])))

/-! ### Setting commands -/

/-- R32: SETT is refused with STATE in TRACK and HOLDOVER; otherwise a valid date in the range with a second of 0..59 makes the pending load HOST with that target and changes nothing else; a day outside the range, or second 60, is refused with RANGE. R28: ZONC sets the offsets and the zone state it gives; RANGE for an offset outside -720..+840 or no multiple of 15; ORDER for a change of zone state while a ZONE slot is active; with no field it changes nothing. -/
def Obligations.SettAndZoncSetTimeAndZone : Prop :=
  (∀ (s : State) (d : Date) (h m sec : Nat), s.lineFree → d.valid = true → h ≤ 23 → m ≤ 59 → sec ≤ 60 →
     ((s.disc.state = .track ∨ s.disc.state = .holdover) →
       exec (.sett [dateText d, fixed 2 h ++ fixed 2 m ++ fixed 2 sec]) s = .next (s.replied .sett .state [])) ∧
     ((s.disc.state = .free ∨ s.disc.state = .acquire) →
       (1 ≤ dayOfDate d → dayOfDate d ≤ 73047 → sec ≤ 59 →
         exec (.sett [dateText d, fixed 2 h ++ fixed 2 m ++ fixed 2 sec]) s = .next
           (({ s with
               time :=
                 { s.time with
                   pending :=
                     some
                       { source := .host,
                         target := { minute := dayOfDate d * 1440 + h * 60 + m, second := sec } } } } : State).replied
             .sett .ok [])) ∧
       ((dayOfDate d < 1 ∨ 73047 < dayOfDate d ∨ sec = 60) →
         exec (.sett [dateText d, fixed 2 h ++ fixed 2 m ++ fixed 2 sec]) s = .next (s.replied .sett .range [])))) ∧
  (∀ (s : State) (a b : Int) (z : Zone), s.lineFree → a.natAbs ≤ 999999999 → b.natAbs ≤ 999999999 →
     (-720 ≤ a → a ≤ 840 → a % 15 = 0 → -720 ≤ b → b ≤ 840 → b % 15 = 0 →
       ((z = s.time.zone ∨ ∀ k e y w st c, s.slot k = some { state := st, content := .zone e y w, carried := c } →
           ∃ o, st = .done o) →
         exec (.zonc [signed a, signed b, zoneText z]) s = .next
           (({ s with time := { s.time with standardOffset := a, summerOffset := b, zone := z } } : State).replied
             .zonc .ok [signed a, signed b, zoneText z])) ∧
       (z ≠ s.time.zone → (∃ k e y w st c, s.slot k = some { state := st, content := .zone e y w, carried := c } ∧
           ∀ o, st ≠ .done o) →
         exec (.zonc [signed a, signed b, zoneText z]) s = .next (s.replied .zonc .order []))) ∧
     ((a < -720 ∨ 840 < a ∨ a % 15 ≠ 0) →
       exec (.zonc [signed a, signed b, zoneText z]) s = .next (s.replied .zonc .range [])) ∧
     exec (.zonc []) s = .next
       (s.replied .zonc .ok [signed s.time.standardOffset, signed s.time.summerOffset, zoneText s.time.zone]))

/-- R40: REFC sets the polarity, delay, mask and loss mode it gives on the reference it names, and nothing else of any reference or block; with only a reference number it changes nothing; out of range it is refused whole. R40, R56, R57, R62: REFC OFF disables a reference: it is OFF with its counters 0, no word, no observations and no jitter base, its settings, last capture and last review are kept, it is not selected, and the other references and the time are as they were; REFC ON of an OFF reference makes it LOST, not yet to be reviewed. R40, R61, R62: a priority that REFC changes is set and the selector evaluates: the best GOOD reference under AUTO_REVERT, the one already selected under AUTO_HOLD if it is GOOD; a change of the selection is listed as SELECT with cause PRIORITY unless masked, and without one the discipline controller and the notices are as they were; a priority already held changes nothing; a priority outside 1..3 is refused. -/
def Obligations.RefcSetsAReference : Prop :=
  (∀ (s : State) (r : RefNo) (e : Edge) (d : Nat) (m : Mask) (l : LossMode), s.lineFree →
     (d ≤ 50000 → m.sec = true →
       exec (.refc [decimal (r.val + 1), [], edgeText e, decimal d, maskText m, lossText l]) s = .next
         ((s.setRef r { s.ref r with polarity := e, delay := d, mask := m, lossMode := l }).replied .refc .ok
           [decimal (r.val + 1), onOff (decide ((s.ref r).state ≠ .off)), edgeText e, decimal d, maskText m, lossText l,
            decimal (s.ref r).priority])) ∧
     (exec (.refc [decimal (r.val + 1)]) s = .next
       (s.replied .refc .ok
         [decimal (r.val + 1), onOff (decide ((s.ref r).state ≠ .off)), edgeText (s.ref r).polarity,
          decimal (s.ref r).delay, maskText (s.ref r).mask, lossText (s.ref r).lossMode,
          decimal (s.ref r).priority])) ∧
     (50000 < d → d ≤ 999999999 →
       exec (.refc [decimal (r.val + 1), [], edgeText e, decimal d, maskText m, lossText l]) s =
         .next (s.replied .refc .range [])) ∧
     (m.sec = false → (m.min || m.hour || m.date) = true →
       exec (.refc [decimal (r.val + 1), [], edgeText e, decimal d, maskText m, lossText l]) s =
         .next (s.replied .refc .range []))) ∧
  (∀ (s : State) (r : RefNo), s.lineFree →
     ((s.ref r).state ≠ .off →
       ∃ t, exec (.refc [decimal (r.val + 1), "OFF".toList]) s = .next t ∧
         t.ref r =
           { s.ref r with
             state := .off, goodRun := 0, faultCount := 0, missCount := 0, held := none, assembly := none,
             obs := { edges := 0, offset := none, wordMissing := false, disagreed := false, excursion := false },
             jitterBase := none } ∧
         t.selector.selected ≠ some r ∧ t.selector.mode = s.selector.mode ∧
         (∀ q, q ≠ r → t.ref q = s.ref q) ∧ t.time = s.time ∧ t.counter = s.counter ∧ t.slots = s.slots ∧
         t.keyer = s.keyer ∧ t.chains = s.chains ∧ t.monitor = s.monitor ∧ t.nextRecord = s.nextRecord) ∧
     ((s.ref r).state = .off →
       ∃ t, exec (.refc [decimal (r.val + 1), "ON".toList]) s = .next t ∧
         t.ref r =
           { s.ref r with
             state := .lost, goodRun := 0, faultCount := 0, missCount := 0, held := none, assembly := none,
             obs := { edges := 0, offset := none, wordMissing := false, disagreed := false, excursion := false },
             jitterBase := none, reviewPending := false } ∧
         (∀ q, q ≠ r → t.ref q = s.ref q) ∧ t.time = s.time ∧ t.counter = s.counter ∧ t.slots = s.slots ∧
         t.keyer = s.keyer ∧ t.chains = s.chains ∧ t.monitor = s.monitor ∧ t.nextRecord = s.nextRecord)) ∧
  (∀ (s : State) (r : RefNo) (p : Nat), s.lineFree →
     (1 ≤ p → p ≤ 3 → p ≠ (s.ref r).priority →
       ∃ t, exec (.refc [decimal (r.val + 1), [], [], [], [], [], decimal p]) s = .next t ∧
         t.ref r = { s.ref r with priority := p } ∧ (∀ q, q ≠ r → t.ref q = s.ref q) ∧
         t.selector.mode = s.selector.mode ∧
         (s.selector.mode = .autoRevert → ∀ q, t.selector.selected = some q ↔ t.isBest q) ∧
         (s.selector.mode = .autoHold → ∀ q, s.selector.selected = some q → (s.ref q).state = .good →
           t.selector.selected = some q) ∧
         (∀ f, s.selector.mode = .force f →
           ∀ q, t.selector.selected = some q ↔ q = f ∧ (s.ref f).state = .good) ∧
         (t.selector.selected = s.selector.selected → t.disc = s.disc ∧ t.notices = s.notices) ∧
         (t.selector.selected ≠ s.selector.selected → NoticeKind.select ∉ s.notices.mask →
           t.lists (.select s.selector.selected t.selector.selected s.selector.mode .priority) s.time.label) ∧
         t.time = s.time ∧ t.counter = s.counter ∧ t.slots = s.slots ∧ t.keyer = s.keyer ∧ t.chains = s.chains ∧
         t.monitor = s.monitor ∧ t.nextRecord = s.nextRecord) ∧
     (1 ≤ p → p ≤ 3 → p = (s.ref r).priority →
       exec (.refc [decimal (r.val + 1), [], [], [], [], [], decimal p]) s =
         exec (.refc [decimal (r.val + 1)]) s) ∧
     ((p = 0 ∨ 3 < p) → p ≤ 999999999 →
       exec (.refc [decimal (r.val + 1), [], [], [], [], [], decimal p]) s = .next (s.replied .refc .range [])))

/-- R61, R63: SELC sets the mode and evaluates: AUTO_REVERT selects the best GOOD reference, FORCE the forced reference if it is GOOD, AUTO_HOLD the selected one if it is GOOD and otherwise the best; nothing is selected where no reference qualifies; the reply gives the mode and the selection. It is refused with RANGE for an unknown mode, a FORCE without a reference 1 to 3, and a reference with another mode. R62, R68: a changed selection posts SELECT, with cause COMMAND at a SELC and STATE where a reference changed its state, after its REF_STATE: at a REFC that enables or disables one and at a review, under the label of the current second or of the epoch. The discipline controller takes it at once: FREE becomes ACQUIRE with its entry second; ACQUIRE with none FREE; TRACK with none HOLDOVER, its timers 0 and the reference lost remembered; TRACK or HOLDOVER with a new one awaits its first capture, HOLDOVER with none does not; in ACQUIRE the lock run is 0; the excursion count is 0; a change of state posts DISC_STATE. An unchanged selection posts nothing and moves nothing. -/
def Obligations.SelcSelectsByItsMode : Prop :=
  (∀ s : State, s.lineFree →
     (∃ t, exec (.selc ["AUTO_REVERT".toList]) s = .next t ∧ t.selector.mode = .autoRevert ∧
       (∀ r, t.selector.selected = some r ↔ s.isBest r) ∧ t.refs = s.refs ∧ t.time = s.time ∧ t.slots = s.slots ∧
       t.keyer = s.keyer ∧ t.counter = s.counter ∧ t.chains = s.chains ∧ t.monitor = s.monitor ∧
       t.nextRecord = s.nextRecord ∧
       t.port = (s.replied .selc .ok ["AUTO_REVERT".toList, [], refOrNone t.selector.selected]).port ∧
       t.tookSelection s s.notices .command s.time.label) ∧
     (∃ t, exec (.selc ["AUTO_HOLD".toList]) s = .next t ∧ t.selector.mode = .autoHold ∧
       (∀ r, s.selector.selected = some r → (s.ref r).state = .good → t.selector.selected = some r) ∧
       ((∀ r, s.selector.selected = some r → (s.ref r).state ≠ .good) →
         ∀ r, t.selector.selected = some r ↔ s.isBest r) ∧ t.refs = s.refs ∧ t.time = s.time ∧ t.slots = s.slots ∧
       t.keyer = s.keyer ∧ t.counter = s.counter ∧ t.chains = s.chains ∧ t.monitor = s.monitor ∧
       t.nextRecord = s.nextRecord ∧
       t.port = (s.replied .selc .ok ["AUTO_HOLD".toList, [], refOrNone t.selector.selected]).port ∧
       t.tookSelection s s.notices .command s.time.label) ∧
     (∀ q : RefNo, ∃ t, exec (.selc ["FORCE".toList, decimal (q.val + 1)]) s = .next t ∧
       t.selector.mode = .force q ∧ (∀ r, t.selector.selected = some r ↔ r = q ∧ (s.ref q).state = .good) ∧
       t.refs = s.refs ∧ t.time = s.time ∧ t.slots = s.slots ∧ t.keyer = s.keyer ∧ t.counter = s.counter ∧
       t.chains = s.chains ∧ t.monitor = s.monitor ∧ t.nextRecord = s.nextRecord ∧
       t.port =
         (s.replied .selc .ok ["FORCE".toList, decimal (q.val + 1), refOrNone t.selector.selected]).port ∧
       t.tookSelection s s.notices .command s.time.label) ∧
     exec (.selc ["FORCE".toList]) s = .next (s.replied .selc .range []) ∧
     (∀ n, (n = 0 ∨ 3 < n) → n ≤ 999999999 →
       exec (.selc ["FORCE".toList, decimal n]) s = .next (s.replied .selc .range [])) ∧
     (∀ q : RefNo,
       exec (.selc ["AUTO_REVERT".toList, decimal (q.val + 1)]) s = .next (s.replied .selc .range []) ∧
       exec (.selc ["AUTO_HOLD".toList, decimal (q.val + 1)]) s = .next (s.replied .selc .range [])) ∧
     (∀ (w : Text) (fs : List Text), w ≠ "AUTO_REVERT".toList → w ≠ "AUTO_HOLD".toList → w ≠ "FORCE".toList →
       exec (.selc (w :: fs)) s = .next (s.replied .selc .range []))) ∧
  (∀ (s : State) (r : RefNo), s.lineFree →
     ((s.ref r).state ≠ .off →
       ∃ t, exec (.refc [decimal (r.val + 1), "OFF".toList]) s = .next t ∧
         t.tookSelection s (s.notices.post (.refState r (s.ref r).state .off .disabled) s.time.label) .state
           s.time.label) ∧
     ((s.ref r).state = .off →
       ∃ t, exec (.refc [decimal (r.val + 1), "ON".toList]) s = .next t ∧
         t.tookSelection s (s.notices.post (.refState r .off .lost .enabled) s.time.label) .state
           s.time.label)) ∧
  (∀ (s t : State) (c : EpochCtx) (r : RefNo) (m : RefMove), t = s.react c (.review r) →
     m = (s.ref r).move ((s.ref r).classify c.window) →
     (((s.ref r).state = .off ∨ (s.ref r).reviewPending = false ∨ c.stepped = true ∨ m.2 = none) →
       t.selector = s.selector ∧ t.disc = s.disc ∧ t.notices = s.notices) ∧
     (∀ cause, (s.ref r).state ≠ .off → (s.ref r).reviewPending = true → c.stepped = false → m.2 = some cause →
       t.tookSelection s (s.notices.post (.refState r (s.ref r).state m.1.state cause) c.label) .state c.label))

/-- R84: DISC with all seven settings in their ranges and orderings stages exactly that set, leaves the set in force, and answers both; an ordering broken is refused with RANGE and leaves the staged set; with no field it changes nothing. R142, R153: KEYC with a depth, a segment length or a shape, and MONC with its three settings, stage them over the staged or the active set when the candidate fits; a value out of range, or a shape that decreases, is refused; with no field they change nothing. -/
def Obligations.SettingsAreStagedWhenTheyFit : Prop :=
  (∀ (s : State) (d : DiscSettings), s.lineFree → 1 ≤ d.j → d.j ≤ 1000 → 1 ≤ d.w → d.w ≤ 1000 → d.b ≤ 999 →
     100 ≤ d.s → d.s ≤ 100000 → 60 ≤ d.h1 → d.h1 ≤ 86400 → 60 ≤ d.h2 → d.h2 ≤ 604800 →
     (d.w ≤ d.j → d.b < d.w → d.h1 ≤ d.h2 →
       exec (.disc d.texts) s = .next
         (({ s with disc := { s.disc with staged := some d } } : State).replied .disc .ok
           (s.disc.settings.texts ++ d.texts))) ∧
     ((d.j < d.w ∨ d.w ≤ d.b ∨ d.h2 < d.h1) → exec (.disc d.texts) s = .next (s.replied .disc .range [])) ∧
     (s.disc.staged = none →
       exec (.disc []) s = .next (s.replied .disc .ok (s.disc.settings.texts ++ ["NONE".toList])))) ∧
  ((∀ (s : State) (d seg : Nat) (f : Envelope), s.lineFree → d ≤ 999999999 → seg ≤ 999999999 →
     f = s.keyer.staged.getD s.keyer.active →
     (50 ≤ d → d ≤ 500 → 100 ≤ seg → seg ≤ 12500 → f.ordered = true →
       exec (.keyc [decimal d, decimal seg]) s = .next
         (({ s with
             keyer := { s.keyer with staged := some { f with depth := d, segment := seg } } } : State).replied .keyc .ok
           [envelopeImage s.keyer.active, envelopeImage { f with depth := d, segment := seg }])) ∧
     ((d < 50 ∨ 500 < d ∨ seg < 100 ∨ 12500 < seg) →
       exec (.keyc [decimal d, decimal seg]) s = .next (s.replied .keyc .range [])) ∧
     (exec (.keyc [[], [], "0/0/0/0/0/0/0/1000".toList]) s = .next
       (({ s with
           keyer :=
             { s.keyer with staged := some { f with shape := #v[0, 0, 0, 0, 0, 0, 0, 1000] } } } : State).replied .keyc
         .ok [envelopeImage s.keyer.active, envelopeImage { f with shape := #v[0, 0, 0, 0, 0, 0, 0, 1000] }])) ∧
     (exec (.keyc [[], [], "0/0/0/0/0/5/4/1000".toList]) s = .next (s.replied .keyc .range [])) ∧
     (s.keyer.staged = none →
       exec (.keyc []) s = .next (s.replied .keyc .ok [envelopeImage s.keyer.active, "NONE".toList]))) ∧
   (∀ (s : State) (e : Bool) (t d : Nat), s.lineFree → t ≤ 999999999 → d ≤ 999999999 →
     (1000 ≤ t → t ≤ 200000 → d ≤ 50000 →
       exec (.monc [onOff e, decimal t, decimal d]) s = .next
         (({ s with
             monitor := { s.monitor with staged := some { enable := e, tolerance := t, delay := d } } } : State).replied
           .monc .ok
           [onOff s.monitor.settings.enable, decimal s.monitor.settings.tolerance, decimal s.monitor.settings.delay,
            onOff e, decimal t, decimal d])) ∧
     ((t < 1000 ∨ 200000 < t ∨ 50000 < d) →
       exec (.monc [onOff e, decimal t, decimal d]) s = .next (s.replied .monc .range [])) ∧
     (s.monitor.staged = none →
       exec (.monc []) s = .next (s.replied .monc .ok
         [onOff s.monitor.settings.enable, decimal s.monitor.settings.tolerance, decimal s.monitor.settings.delay,
          "NONE".toList]))))

/-- R150: the pending change that an MNTC leaves, for each mode in force and each mode requested; nothing else changes. A missing or unknown mode is refused with RANGE. -/
def Obligations.MntcJudgesTheRequest : Prop :=
  ∀ s : State, s.lineFree →
    (∀ m : MaintMode, m = s.chains.maintenance →
      exec (.mntc [maintText m]) s = .next
        (({ s with chains := { s.chains with pendingMaintenance := none } } : State).replied .mntc .ok
          [maintText s.chains.maintenance, [], []])) ∧
    (s.chains.maintenance ≠ .inhibit →
      exec (.mntc ["INHIBIT".toList]) s = .next
        (({ s with
            chains :=
              { s.chains with pendingMaintenance := some { mode := .inhibit, due := .nextEpoch } } } : State).replied
          .mntc .ok [maintText s.chains.maintenance, "INHIBIT".toList, "NEXT_EPOCH".toList])) ∧
    (∀ m : MaintMode, m ≠ s.chains.maintenance → m ≠ .inhibit →
      exec (.mntc [maintText m]) s = .next
        (({ s with
            chains := { s.chains with pendingMaintenance := some { mode := m, due := .nextBoundary } } } : State).replied
          .mntc .ok [maintText s.chains.maintenance, maintText m, "NEXT_BOUNDARY".toList])) ∧
    (exec (.mntc []) s = .next (s.replied .mntc .range [])) ∧
    (∀ f : Text, f ≠ [] → (∀ m, maintText m ≠ f) → exec (.mntc [f]) s = .next (s.replied .mntc .range []))

/-- R165: OUTC that names the other chain starts a MANUAL changeover when the state is STEADY and the chain is seen ready, is refused with BUSY in PREPARING and with NOTREADY when the chain is negated; naming the chain on air starts nothing; standby mode, auto-arm state and threshold are set as given. R161: a change of a chain's ready level sets the level seen and posts CHAIN_READY; the negation of a PREPARING changeover's target then cancels it; a level already seen posts nothing. That CANCELLED is posted with the label of the current second is the model's reading (log 31). -/
def Obligations.OutcAndChainReadyActAtOnce : Prop :=
  (∀ (s : State) (sb : Standby) (a : AutoArm) (th : Nat), s.lineFree → 1 ≤ th → th ≤ 15 →
     (s.chains.changeover = .steady → s.chains.ready.get s.chains.onAir.other = .high →
       exec (.outc [standbyText sb, chainText s.chains.onAir.other, autoArmText a, decimal th]) s = .next
         (({ s with
             chains :=
               { s.chains with
                 standby := sb, autoArm := a, threshold := th,
                 changeover := .preparing s.chains.onAir.other .manual } } : State).replied .outc .ok
           [chainText s.chains.onAir, "PREPARING".toList, chainText s.chains.onAir.other, autoArmText a, standbyText sb,
            decimal th, decimal s.chains.verdictRun])) ∧
     (s.chains.changeover ≠ .steady →
       exec (.outc [standbyText sb, chainText s.chains.onAir.other, autoArmText a, decimal th]) s =
         .next (s.replied .outc .busy [])) ∧
     (s.chains.changeover = .steady → s.chains.ready.get s.chains.onAir.other = .low →
       exec (.outc [standbyText sb, chainText s.chains.onAir.other, autoArmText a, decimal th]) s =
         .next (s.replied .outc .notready [])) ∧
     (exec (.outc [standbyText sb, chainText s.chains.onAir, autoArmText a, decimal th]) s = .next
       (({ s with chains := { s.chains with standby := sb, autoArm := a, threshold := th } } : State).replied .outc .ok
         [chainText s.chains.onAir, changeoverText s.chains.changeover, orEmpty chainText s.chains.changeover.target,
          autoArmText a, standbyText sb, decimal th, decimal s.chains.verdictRun])) ∧
     (exec (.outc ["WARM".toList]) s = .next (s.replied .outc .range []))) ∧
  (∀ (s : State) (c : Chain) (l : Level), s.resetHeld = false →
     (s.chains.ready.get c = l →
       exec (.chainReady c l) s = .next { s with pins := { s.pins with rdy := s.pins.rdy.set c l } }) ∧
     (s.chains.ready.get c ≠ l → (l = .high ∨ ∀ o, s.chains.changeover ≠ .preparing c o) →
       exec (.chainReady c l) s = .next
         { s with
           pins := { s.pins with rdy := s.pins.rdy.set c l },
           chains := { s.chains with ready := s.chains.ready.set c l },
           notices := s.notices.post (.chainReady c l) s.time.label }) ∧
     (∀ o, s.chains.ready.get c = .high → s.chains.changeover = .preparing c o →
       exec (.chainReady c .low) s = .next
         { s with
           pins := { s.pins with rdy := s.pins.rdy.set c .low },
           chains := { s.chains with ready := s.chains.ready.set c .low, changeover := .steady },
           notices :=
             (s.notices.post (.chainReady c .low) s.time.label).post (.changeover .cancelled c) s.time.label }))

/-! ### The announcement table -/

/-- R89 to R93: the five checks of ANNW in their order, and the write; that a field beyond the fifth is refused at the third step, so that a COMMITTED slot answers STATE, is the model's choice (log 43). -/
def Obligations.AnnwChecksThenWrites : Prop :=
  ∀ (s : State) (k : SlotNo) (rest : List Text), s.lineFree →
    (s.time.label = none → exec (.annw (decimal (k.val + 1) :: rest)) s = .next (s.replied .annw .notime [])) ∧
    (∀ l, s.time.label = some l →
      (exec (.annw ("9".toList :: rest)) s = .next (s.replied .annw .range [])) ∧
      ((∃ x, s.slot k = some x ∧ x.state = .committed) →
        exec (.annw (decimal (k.val + 1) :: rest)) s = .next (s.replied .annw .state [])) ∧
      ((∀ x, s.slot k = some x → x.state ≠ .committed) →
        (readContent (decimal (k.val + 1) :: rest) = none →
          exec (.annw (decimal (k.val + 1) :: rest)) s = .next (s.replied .annw .range [])) ∧
        (∀ c, readContent (decimal (k.val + 1) :: rest) = some c →
          (c.badDay = true →
            exec (.annw (decimal (k.val + 1) :: rest)) s = .next (s.replied .annw .badday [])) ∧
          (c.badDay = false → c.minute < l.minute + 3 →
            exec (.annw (decimal (k.val + 1) :: rest)) s = .next (s.replied .annw .late [])) ∧
          (c.badDay = false → l.minute + 3 ≤ c.minute → conflicts s.slots k c = true →
            exec (.annw (decimal (k.val + 1) :: rest)) s = .next (s.replied .annw .conflict [])) ∧
          (c.badDay = false → l.minute + 3 ≤ c.minute → conflicts s.slots k c = false →
            (orderApplies s.slots k c = true → orderHolds s.slots s.time.zone k c = false →
              exec (.annw (decimal (k.val + 1) :: rest)) s = .next (s.replied .annw .order [])) ∧
            ((orderApplies s.slots k c = false ∨ orderHolds s.slots s.time.zone k c = true) →
              exec (.annw (decimal (k.val + 1) :: rest)) s = .next
                ((s.setSlot k (some { state := .armed, content := c, carried := false })).replied .annw .ok
                  (slotFields k (some { state := .armed, content := c, carried := false }))))))))

/-- R94: what ANNC does with a slot in each state. -/
def Obligations.AnncFollowsTheSlotsState : Prop :=
  ∀ (s : State) (k : SlotNo), s.lineFree →
    (s.slot k = none →
      exec (.annc [decimal (k.val + 1)]) s = .next (s.replied .annc .ok [decimal (k.val + 1), "EMPTY".toList])) ∧
    (∀ x, s.slot k = some x →
      (x.state = .committed → exec (.annc [decimal (k.val + 1)]) s = .next (s.replied .annc .late [])) ∧
      ((x.state = .armed ∨ x.state = .announcing) →
        (∃ e z w, x.content = .zone e z w) →
        (∃ n y e' z' w', s.slot n = some y ∧ y.state.active = true ∧ y.content = .zone e' z' w' ∧
          x.content.minute < e') →
        exec (.annc [decimal (k.val + 1)]) s = .next (s.replied .annc .order [])) ∧
      ((x.state = .armed ∨ x.state = .announcing) →
        ((∀ e z w, x.content ≠ .zone e z w) ∨
          ∀ n y e' z' w', s.slot n = some y → y.state.active = true → y.content = .zone e' z' w' →
            e' ≤ x.content.minute) →
        exec (.annc [decimal (k.val + 1)]) s = .next
          ((s.setSlot k none).replied .annc .ok [decimal (k.val + 1), "EMPTY".toList])) ∧
      (∀ o, x.state = .done o →
        exec (.annc [decimal (k.val + 1)]) s = .next
          ((s.setSlot k none).replied .annc .ok [decimal (k.val + 1), "EMPTY".toList]))) ∧
    (exec (.annc ["9".toList]) s = .next (s.replied .annc .range []))

/-- R102, R103, R110: at the boundary that begins minute m, in whatever order the slots are taken: an active ZONE slot with E = m is applied and DONE, and its target is the zone in force; an ARMED or ANNOUNCING LEAP slot with E = m commits; a COMMITTED one with E = m - 1 is DONE; every other slot is as it was, and so is the zone where no ZONE slot is applied; a slot that commits or becomes DONE leaves SLOT_STATE listed unless masked. -/
def Obligations.SlotsMoveAtABoundary : Prop :=
  ∀ (s : State) (m : Nat) (label : Option Label) (k : SlotNo),
    (∀ x, s.slot k = some x →
      (∀ e z w, x.content = .zone e z w → x.state.active = true →
        (e = m → (s.tableAtBoundary m label).slot k = some { x with state := .done .applied }) ∧
        (e ≠ m → (s.tableAtBoundary m label).slot k = some x)) ∧
      (∀ d dir w, x.content = .leap d dir w →
        (x.state = .armed ∨ x.state = .announcing →
          (d * 1440 + 1439 = m → (s.tableAtBoundary m label).slot k = some { x with state := .committed }) ∧
          (d * 1440 + 1439 ≠ m → (s.tableAtBoundary m label).slot k = some x)) ∧
        (x.state = .committed →
          (d * 1440 + 1440 = m → (s.tableAtBoundary m label).slot k = some { x with state := .done .applied }) ∧
          (d * 1440 + 1440 ≠ m → (s.tableAtBoundary m label).slot k = some x))) ∧
      (∀ a b c, x.content = .service a b c → (s.tableAtBoundary m label).slot k = some x) ∧
      (x.state.active = false → (s.tableAtBoundary m label).slot k = some x)) ∧
    (s.slot k = none → (s.tableAtBoundary m label).slot k = none) ∧
    (∀ z w c st, s.slot k = some { state := st, content := .zone m z w, carried := c } → st.active = true →
      (∀ n y z' w', s.slot n = some y → y.state.active = true → y.content = .zone m z' w' → n = k) →
      (s.tableAtBoundary m label).time.zone = z) ∧
    ((∀ n y z' w', s.slot n = some y → y.content = .zone m z' w' → y.state.active = false) →
      (s.tableAtBoundary m label).time = s.time) ∧
    ((s.tableAtBoundary m label).slot k ≠ s.slot k → NoticeKind.slotState ∉ s.notices.mask →
      ∃ e ∈ (s.tableAtBoundary m label).notices.entries, e.data.kind = .slotState ∧ e.label = label)

/-- R97, R98, R100, R101, R110: at the composition for the keyed minute m and the described minute m + 1, in whatever order the slots are taken: what each ZONE, LEAP and SERVICE slot becomes by its state and its minutes; the carried flag of a SERVICE slot then says whether it is the lowest-numbered one that is ANNOUNCING with S <= D < T; a slot that commits or becomes DONE leaves SLOT_STATE listed unless masked; nothing but the slots and the notices is touched. -/
def Obligations.SlotsMoveAtAComposition : Prop :=
  ∀ (s t : State) (m : Nat) (label : Option Label) (k : SlotNo), t = s.tableAtComposition m (m + 1) label →
    (s.slot k = none → t.slot k = none) ∧
    (∀ x, s.slot k = some x →
      (∀ e z w, x.content = .zone e z w →
        (x.state = .armed →
          (m + 1 = e → t.slot k = some { x with state := .committed }) ∧
          (e ≤ m + 1 + w → m + 1 < e → t.slot k = some { x with state := .announcing }) ∧
          (m + 1 + w < e → t.slot k = some x)) ∧
        (x.state = .announcing →
          (m + 1 = e → t.slot k = some { x with state := .committed }) ∧ (m + 1 < e → t.slot k = some x)) ∧
        (x.state = .committed → t.slot k = some x)) ∧
      (∀ d dir w, x.content = .leap d dir w →
        (x.state = .armed →
          (m = d * 1440 + 1439 → t.slot k = some { x with state := .committed }) ∧
          (d * 1440 + 1439 ≤ m + 1 + w → m + 1 ≤ d * 1440 + 1439 → t.slot k = some { x with state := .announcing }) ∧
          (m + 1 + w < d * 1440 + 1439 → t.slot k = some x)) ∧
        (x.state = .announcing →
          (m = d * 1440 + 1439 → t.slot k = some { x with state := .committed }) ∧
          (m + 1 ≤ d * 1440 + 1439 → t.slot k = some x)) ∧
        (x.state = .committed → t.slot k = some x)) ∧
      (∀ a b c, x.content = .service a b c →
        ∃ y, t.slot k = some y ∧ y.content = x.content ∧
          (x.state = .armed ∨ x.state = .announcing → b ≤ m + 1 → y.state = .done .ended ∧ y.carried = false) ∧
          (x.state = .armed → a ≤ m + 1 → m + 1 < b → y.state = .announcing) ∧
          (x.state = .armed → m + 1 < a → m + 1 < b → y.state = .armed) ∧
          (x.state = .announcing → m + 1 < b → y.state = .announcing) ∧
          (y.carried = true ↔ y.state = .announcing ∧ a ≤ m + 1 ∧ m + 1 < b ∧
            ∀ n z a' b' c', n < k → t.slot n = some z → z.state = .announcing → z.content = .service a' b' c' →
              m + 1 < a' ∨ b' ≤ m + 1)) ∧
      (∀ o, x.state = .done o → x.content.kind ≠ .service → t.slot k = some x) ∧
      (∀ y, t.slot k = some y → y.state ≠ x.state → (y.state = .committed ∨ y.state.active = false) →
        NoticeKind.slotState ∉ s.notices.mask →
        ∃ e ∈ t.notices.entries, e.data.kind = .slotState ∧ e.label = label)) ∧
    t = { s with slots := t.slots, notices := t.notices, freeCount := t.freeCount }

/-- R92: in every step the active ZONE slots keep their law: in order of effective minute their targets alternate, the first opposite to the zone in force, no two share an effective minute, and while the time is SET none of them is due yet. -/
def Obligations.ZoneScheduleStaysLawful : Prop :=
  ∀ s t : State, s.zoneScheduleHolds → step s = .next t → t.zoneScheduleHolds

/-- R91, R100: in every step the LEAP slots keep their law: at most one is COMMITTED, and its effective minute is the current minute or the next; active ones name different last days of months in the range and, until they are COMMITTED, a minute still to come. -/
def Obligations.LeapSlotsStayLawful : Prop :=
  ∀ s t : State, s.leapSlotsHold → step s = .next t → t.leapSlotsHold

/-- R104, R105: when a load to minute n is performed: a COMMITTED ZONE slot ends as MISSED; an ARMED or ANNOUNCING one ends as PASSED when E < n + 3, and as MISSED when it stands before one that so ends; the target of the last of them is the zone in force; a COMMITTED LEAP slot, and an ARMED or ANNOUNCING one with E < n + 3, ends as MISSED; an ARMED or ANNOUNCING SERVICE slot with T < n + 3 ends, its carried flag NO; every other slot stays as it was. No ZONE or LEAP slot is left COMMITTED. -/
def Obligations.LoadEndsPassedSlots : Prop :=
  ∀ (s t : State) (p : PendingLoad) (k : SlotNo), t = s.performLoad p →
    (s.slot k = none → t.slot k = none) ∧
    (∀ x, s.slot k = some x →
      (∀ e z w, x.content = .zone e z w →
        (x.state = .committed → t.slot k = some { x with state := .done .missed }) ∧
        ((x.state = .armed ∨ x.state = .announcing) →
          (e < p.target.minute + 3 → t.slot k = some { x with state := .done .passed }) ∧
          (p.target.minute + 3 ≤ e →
            ((∃ n y e' z' w', s.slot n = some y ∧ y.content = .zone e' z' w' ∧ y.state = .committed ∧ e < e') →
              t.slot k = some { x with state := .done .missed }) ∧
            ((∀ n y e' z' w', s.slot n = some y → y.content = .zone e' z' w' → y.state = .committed → e' ≤ e) →
              t.slot k = some x)))) ∧
      (∀ d dir w, x.content = .leap d dir w →
        (x.state = .committed → t.slot k = some { x with state := .done .missed }) ∧
        ((x.state = .armed ∨ x.state = .announcing) →
          (d * 1440 + 1439 < p.target.minute + 3 → t.slot k = some { x with state := .done .missed }) ∧
          (p.target.minute + 3 ≤ d * 1440 + 1439 → t.slot k = some x))) ∧
      (∀ a b c, x.content = .service a b c → (x.state = .armed ∨ x.state = .announcing) →
        (b < p.target.minute + 3 → t.slot k = some { x with state := .done .ended, carried := false }) ∧
        (p.target.minute + 3 ≤ b → t.slot k = some x)) ∧
      (x.state.active = false → t.slot k = some x) ∧
      (∀ e z w, x.content = .zone e z w → x.state.active = true → (x.state = .committed ∨ e < p.target.minute + 3) →
        (∀ n y e' z' w', s.slot n = some y → n ≠ k → y.content = .zone e' z' w' → y.state.active = true →
          (y.state = .committed ∨ e' < p.target.minute + 3) → e' < e) →
        t.time.zone = z)) ∧
    (∀ x, t.slot k = some x → x.content.kind ≠ .service → x.state ≠ .committed) ∧
    ((∀ n x, s.slot n = some x → x.content.kind = .zone → x.state.active = false) → t.time.zone = s.time.zone)

/-! ### Calendar and time -/

/-- R23, R24: the two conversions of the calendar undo each other over the part's whole span, and give valid dates. -/
def Obligations.CalendarConversionsAgree : Prop :=
  (∀ n, n ≤ 73048 → (dateOfDay n).valid = true ∧ dayOfDate (dateOfDay n) = n) ∧
  (∀ d : Date, d.valid = true → dateOfDay (dayOfDate d) = d ∧ dayOfDate d ≤ 73048)

/-- R20, R21, R64: the local epoch: a nominal second begins at phase count 0; with no load held the label advances by one second, the minute ending at second 58, 59 or 60 as the COMMITTED LEAP slots say; an UNSET time stays UNSET; the port and the pins are untouched. R20, R31, R34: the second runs to its end, a nominal one begins and the time scale takes its step, which without a load leaves the slots, the zone and NEXT as they are. R102, R131, R134, R157, R163: on the state so left the epoch is the reactions of the blocks, each once, in an order that is free but for the settings and the maintenance mode, which come first of the keyer, the monitor and the holdover timers (log 3); an epoch whose label has second 0, and no other, takes the table's boundary, the keyer's boundary and the monitor's judgement with the changeover block behind it; any other one takes the keyer's test and closes the monitor's second. R85, R143, R151, R153, R154: staged discipline settings come into force at any epoch, a pending maintenance mode at its due point, and the staged envelope and monitor settings, with the source of the minute, at a boundary alone. -/
def Obligations.LocalEpochAdvancesTheLabel : Prop :=
  (∀ s : State, s.resetHeld = false → s.time.pending = none →
     ∃ t, exec .localEpoch s = .next t ∧ t.counter = { phase := 0, length := 10000000 } ∧
       t.time.pending = none ∧ t.port = s.port ∧ t.pins = s.pins ∧ t.pending = s.pending ∧
       t.disc.lastApplied = some ((s.counter.length : Int) - 10000000) ∧ t.disc.stepped = false ∧
       (s.time.label = none → t.time.label = none) ∧
       (∀ l, s.time.label = some l → l.minute < 105189119 →
         (l.second < 58 → t.time.label = some { minute := l.minute, second := l.second + 1 }) ∧
         (l.second = 58 → committedLeap s.slots .delete l.minute = true →
           t.time.label = some { minute := l.minute + 1, second := 0 }) ∧
         (l.second = 58 → committedLeap s.slots .delete l.minute = false →
           t.time.label = some { minute := l.minute, second := 59 }) ∧
         (l.second = 59 → committedLeap s.slots .insert l.minute = true →
           t.time.label = some { minute := l.minute, second := 60 }) ∧
         (l.second = 59 → committedLeap s.slots .insert l.minute = false →
           t.time.label = some { minute := l.minute + 1, second := 0 }) ∧
         (l.second = 60 → t.time.label = some { minute := l.minute + 1, second := 0 }))) ∧
  (∀ s : State, s.resetHeld = false →
     ∀ (v u : State) (c : EpochCtx), v = s.toEpoch.countFree.countFree → u = v.beginSecond.timeStep.state →
       c = v.epochCtx v.beginSecond.timeStep →
     (u.refs = s.refs ∧ u.selector = s.selector ∧ u.chains = s.chains ∧ u.keyer.mode = s.keyer.mode ∧
       u.keyer.air = s.keyer.air ∧ u.keyer.staged = s.keyer.staged ∧ u.disc.state = s.disc.state ∧
       u.disc.settings = s.disc.settings ∧ u.disc.elapsed = s.disc.elapsed ∧
       (c.loaded = false → u.slots = s.slots ∧ u.time.zone = s.time.zone ∧ u.nextRecord = s.nextRecord)) ∧
     ∃ order : List Reaction,
       order.Perm
         [.settings, .maintenance, .keyer, .monitor, .holdover, .review 0, .review 1, .review 2, .composition, .table,
          .rangeEnd] ∧
       (∀ a x b, order = a ++ x :: b → (x = .keyer ∨ x = .monitor ∨ x = .holdover) →
         Reaction.settings ∈ a ∧ Reaction.maintenance ∈ a) ∧
       u.time.label = c.label ∧ u.counter = { phase := 0, length := 10000000 } ∧
       exec .localEpoch s = .next (order.foldl (State.react c) u) ∧
       (order.foldl (State.react c) u).time.label = c.label ∧
       (∀ v : State, v.react c .composition = v.composition c.label ∧
         (∀ l, c.label = some l → l.second = 0 →
           v.react c .table = v.tableAtBoundary l.minute (some l) ∧
           v.react c .keyer = (v.keyerBoundary l.minute (some l)).makeSchedule (some l) ∧
           v.react c .monitor =
             ((if c.loaded || c.rangeEnd then (v.closeSecond c).abandon else v.closeSecond c).judge
               (some l)).openObservation l.minute) ∧
         ((∀ l, c.label = some l → l.second ≠ 0) →
           v.react c .table = v ∧ v.react c .keyer = (v.keyerOther c).makeSchedule c.label ∧
           v.react c .monitor = (if c.loaded || c.rangeEnd then (v.closeSecond c).abandon else v.closeSecond c) ∧
           (v.react c .monitor).chains = v.chains))) ∧
  (∀ s : State, s.resetHeld = false →
     ∃ t, exec .localEpoch s = .next t ∧
       t.disc.settings = s.disc.staged.getD s.disc.settings ∧ t.disc.staged = none ∧
       (∀ p, s.chains.pendingMaintenance = some p →
         ((p.due = .nextEpoch ∨ isBoundary t.time.label = true) →
           t.chains.maintenance = p.mode ∧ t.chains.pendingMaintenance = none) ∧
         (p.due = .nextBoundary → isBoundary t.time.label = false →
           t.chains.maintenance = s.chains.maintenance ∧ t.chains.pendingMaintenance = some p)) ∧
       (s.chains.pendingMaintenance = none →
         t.chains.maintenance = s.chains.maintenance ∧ t.chains.pendingMaintenance = none) ∧
       (isBoundary t.time.label = true →
         t.keyer.active = s.keyer.staged.getD s.keyer.active ∧ t.keyer.staged = none ∧
         t.monitor.settings = s.monitor.staged.getD s.monitor.settings ∧ t.monitor.staged = none ∧
         t.monitor.source = (if t.chains.maintenance = .loop then .loop else .normal)) ∧
       (isBoundary t.time.label = false →
         t.keyer.active = s.keyer.active ∧ t.keyer.staged = s.keyer.staged ∧
         t.monitor.settings = s.monitor.settings ∧ t.monitor.staged = s.monitor.staged ∧
         t.monitor.source = s.monitor.source))

/-- R34, R35, R36, R80, R125, R156, at the local epoch that meets a pending load: it is absent afterwards; it is declined for the first reason that holds (log 15), with the label advanced and TIME_LOADED listed as DECLINED with that reason and the label delivered; or found unchanged, which from a reference lists nothing; or performed: the label is the target, the record in NEXT is marked or at a boundary taken, the minute under observation is abandoned without a record, a boundary opens the loaded minute, and no ZONE or LEAP slot is left COMMITTED. From HOST the last two list TIME_LOADED and clear the expired flag. Notices are listed unless masked. -/
def Obligations.PendingLoadIsConsideredAtTheEpoch : Prop :=
  ∀ (s : State) (p : PendingLoad), s.resetHeld = false → s.time.pending = some p →
    ∃ t, exec .localEpoch s = .next t ∧ t.time.pending = none ∧
      t.counter = { phase := 0, length := 10000000 } ∧
      (∀ reason,
        ((p.source = .host ∧ (s.disc.state = .track ∨ s.disc.state = .holdover)) ∧ reason = .state) ∨
        (¬(p.source = .host ∧ (s.disc.state = .track ∨ s.disc.state = .holdover)) ∧
          (p.target.minute < 1440 ∨ 105189119 < p.target.minute) ∧ reason = .range) ∨
        (¬(p.source = .host ∧ (s.disc.state = .track ∨ s.disc.state = .holdover)) ∧ 1440 ≤ p.target.minute ∧
          p.target.minute ≤ 105189119 ∧ p.target.second = 60 ∧ reason = .leap) →
        t.time.label = s.nextLabel ∧
        (NoticeKind.timeLoaded ∉ s.notices.mask →
          t.lists (.timeLoaded p.source (.declined reason) p.target) s.nextLabel)) ∧
      (¬(p.source = .host ∧ (s.disc.state = .track ∨ s.disc.state = .holdover)) → 1440 ≤ p.target.minute →
        p.target.minute ≤ 105189119 → p.target.second ≠ 60 →
        t.time.label = some p.target ∧ (p.source = .host → t.disc.expired = false) ∧
        (s.nextLabel = some p.target →
          (p.source = .host → NoticeKind.timeLoaded ∉ s.notices.mask →
            t.lists (.timeLoaded .host .unchanged p.target) (some p.target)) ∧
          (p.source ≠ .host → (∀ e ∈ s.notices.entries, e.data.kind ≠ .timeLoaded) →
            ∀ e ∈ t.notices.entries, e.data.kind ≠ .timeLoaded)) ∧
        (s.nextLabel ≠ some p.target →
          (NoticeKind.timeLoaded ∉ s.notices.mask →
            t.lists (.timeLoaded p.source .loaded p.target) (some p.target)) ∧
          (p.target.second ≠ 0 → p.target.second ≠ 50 →
            t.nextRecord = s.nextRecord.map (fun r => { r with stale := true })) ∧
          (p.target.second = 0 → t.nextRecord = none ∧ t.keyer.air = none) ∧
          (p.target.second ≠ 0 → t.monitor.observation = none) ∧
          (p.target.second = 0 →
            t.monitor.observation = some { minute := p.target.minute, length := none, entries := [] }) ∧
          t.monitor.record = s.monitor.record ∧
          (∀ k x, t.slot k = some x → x.content.kind ≠ .service → x.state ≠ .committed)))

/-- R22, R36, R81, R136: the epoch that ends 2199-12-30 23:59:59 leaves no label, posts TIME_END with that label unless masked, turns the keyer QUIET, and takes the discipline controller to FREE with its counts 0 and its marks cleared, the expired flag and the selection kept, listing DISC_STATE with cause RANGE_END unless masked where it was not FREE. A reference whose review falls at the same epoch can be selected or lost by it, before or after (log 3); so the state, the notice and the selection are stated where no review changes the state of a reference. A HOLDOVER whose count reaches H2 at the same epoch may expire first (log 3) and lists one cause or the other. -/
def Obligations.TimeEndsWithItsRange : Prop :=
  ∀ s : State, s.resetHeld = false → s.time.label = some { minute := 105189119, second := 59 } →
    s.time.pending = none → committedLeap s.slots .insert 105189119 = false →
    ∃ t, exec .timeEnd s = .next t ∧ t.time.label = none ∧ t.keyer.mode = .quiet ∧ t.keyer.schedule = [] ∧
      (NoticeKind.timeEnd ∉ s.notices.mask →
        t.lists (.timeEnd { minute := 105189119, second := 59 }) none) ∧
      (t.disc.state = .free ∨ t.disc.state = .acquire) ∧ t.disc.elapsed = 0 ∧ t.disc.h1Passed = false ∧
      t.disc.excursions = 0 ∧ t.disc.lockRun = 0 ∧ t.disc.firstAwaited = false ∧
      (s.reviewsChangeNone →
        t.disc.state = .free ∧ t.disc.entrySecond = false ∧ t.selector = s.selector ∧
        (s.disc.state = .free →
          t.disc.expired = s.disc.expired ∧
          ∀ x : Notice, x.data.kind = .discState → (x ∈ t.notices.entries ↔ x ∈ s.notices.entries)) ∧
        ((s.disc.state = .track ∨ s.disc.state = .acquire ∨
            (s.disc.state = .holdover ∧ s.disc.elapsed + 1 < s.nextSettings.h2)) →
          t.disc.expired = s.disc.expired ∧
          (NoticeKind.discState ∉ s.notices.mask →
            t.lists (.discState s.disc.state .free s.selector.selected .rangeEnd) none)) ∧
        (s.disc.state = .holdover → s.nextSettings.h2 ≤ s.disc.elapsed + 1 →
          NoticeKind.discState ∉ s.notices.mask →
          t.lists (.discState .holdover .free s.selector.selected .rangeEnd) none ∨
            t.lists (.discState .holdover .free s.selector.selected .expired) none))

/-- R22, R34: in every step the label stays in the time scale's range. -/
def Obligations.LabelStaysInRange : Prop :=
  ∀ s t : State, s.timeBounded → step s = .next t → t.timeBounded

/-! ### References -/

/-- R44: what the word receiver of an enabled reference does with each character; that a framing error is looked at before '#' and carriage return is the model's reading (log 24). R45: a completed word that is valid becomes the held word, and a failed one leaves no held word; nothing else changes. -/
def Obligations.WordReceiverTakesCharacters : Prop :=
  (∀ (s : State) (r : RefNo) (c : Char) (e : Bool), s.resetHeld = false →
     ((s.ref r).state = .off →
       exec (.wordCharacterReceived r { code := c, framingError := e }) s = .next s) ∧
     ((s.ref r).state ≠ .off →
       ∃ t, exec (.wordCharacterReceived r { code := c, framingError := e }) s = .next t ∧
         t = s.setRef r { s.ref r with assembly := (t.ref r).assembly, held := (t.ref r).held } ∧
         ((s.ref r).assembly = none →
           (t.ref r).held = (s.ref r).held ∧
           (c = '#' → e = false → (t.ref r).assembly = some []) ∧
           ((c ≠ '#' ∨ e = true) → (t.ref r).assembly = none)) ∧
         (∀ w, (s.ref r).assembly = some w →
           (e = true → (t.ref r).assembly = none ∧ (t.ref r).held = none) ∧
           (e = false → c = '#' → (t.ref r).assembly = some [] ∧ (t.ref r).held = none) ∧
           (e = false → c = '\r' → w.length = 15 → (t.ref r).assembly = none ∧ (t.ref r).held = readWord w) ∧
           (e = false → c = '\r' → w.length ≠ 15 → (t.ref r).assembly = none ∧ (t.ref r).held = none) ∧
           (e = false → c ≠ '#' → c ≠ '\r' → w.length < 15 →
             (t.ref r).assembly = some (w ++ [c]) ∧ (t.ref r).held = (s.ref r).held) ∧
           (e = false → c ≠ '#' → c ≠ '\r' → 15 ≤ w.length →
             (t.ref r).assembly = none ∧ (t.ref r).held = none)))) ∧
  (∀ (s : State) (r : RefNo), s.resetHeld = false → (s.ref r).state ≠ .off →
     (∀ w : TimeWord, w.date.valid = true → w.hour ≤ 23 → w.minute ≤ 59 → w.second ≤ 60 →
       exec (.wordCompletion r
           (some (dateText w.date ++ fixed 2 w.hour ++ fixed 2 w.minute ++ fixed 2 w.second ++ [leapMarkChar w.leap]))) s =
         .next (s.setRef r { s.ref r with assembly := none, held := some w })) ∧
     exec (.wordCompletion r none) s = .next (s.setRef r { s.ref r with assembly := none, held := none }))

/-- R41 to R43, R46 to R49: a capture of a reference that is not selected is recorded and goes no further: p, u = p - d, e, the side, the label and the word, with the second's edge count, offset, word-missing and disagreement marks, and LEAP_MISMATCH where a GOOD reference's word marks a leap that the table does not hold; a transition in the other polarity, or of an OFF reference, changes the line's level alone, as does one to the level that the line already has, which is none (log 39). That a capture without a word is recorded UNCHECKED (log 42), and that an edge on the CURRENT side keeps its label in the last second of the range (log 48), are the model's choices. -/
def Obligations.EdgeIsLatchedAndRecorded : Prop :=
  ∀ (s : State) (r : RefNo) (edge : Edge), s.resetHeld = false →
    (((s.ref r).state = .off ∨ (s.ref r).polarity ≠ edge ∨ s.pins.refe[r] = levelAfter edge) →
      exec (.referenceEdge r edge) s =
        .next { s with pins := { s.pins with refe := s.pins.refe.set r (levelAfter edge) } }) ∧
    ((s.ref r).state ≠ .off → (s.ref r).polarity = edge → s.pins.refe[r] ≠ levelAfter edge →
      s.selector.selected ≠ some r →
      ∃ t c, exec (.referenceEdge r edge) s = .next t ∧ c.phase = s.counter.phase ∧
        ((s.counter.phase : Int) - (s.ref r).delay < 5000000 →
          c.offset = (s.counter.phase : Int) - (s.ref r).delay ∧ c.side = .current ∧ c.label = s.time.label) ∧
        (5000000 ≤ (s.counter.phase : Int) - (s.ref r).delay →
          c.offset = (s.counter.phase : Int) - (s.ref r).delay - 10000000 ∧ c.side = .next ∧
            c.label = s.nextLabel) ∧
        c.word = (s.ref r).held ∧
        (c.word = none ∨ c.label = none → c.agreement = .unchecked) ∧
        (∀ w l, c.word = some w → c.label = some l →
          (c.agreement = .agree ↔
            (((s.ref r).mask.sec = true → w.second = l.second) ∧
              ((s.ref r).mask.min = true → w.minute = l.minute % 1440 % 60) ∧
              ((s.ref r).mask.hour = true → w.hour = l.minute % 1440 / 60) ∧
              ((s.ref r).mask.date = true → w.date = dateOfDay (l.minute / 1440)))) ∧
          (c.agreement ≠ .agree → c.agreement = .disagree)) ∧
        t.ref r =
          { s.ref r with
            held := none, last := some c,
            obs :=
              { edges := min 2 ((s.ref r).obs.edges + 1),
                offset := if (s.ref r).obs.edges = 0 then some c.offset else (s.ref r).obs.offset,
                wordMissing := (s.ref r).obs.wordMissing || decide (c.word = none),
                disagreed := (s.ref r).obs.disagreed || decide (c.agreement = .disagree),
                excursion := (s.ref r).obs.excursion } } ∧
        (∀ w l, c.word = some w → c.label = some l → (s.ref r).state = .good → w.leap ≠ .nothing →
          (∀ k x d dir n, s.slot k = some x → x.state.active = true → x.content = .leap d dir n →
            d ≠ monthEndOf (l.minute / 1440)) →
          t.notices = s.notices.post (.leapMismatch r w.leap (monthEndOf (l.minute / 1440))) (some l)) ∧
        ((c.word = none ∨ c.label = none ∨ (s.ref r).state ≠ .good ∨ (∀ w, c.word = some w → w.leap = .nothing) ∨
            (∃ l k x d dir n, c.label = some l ∧ s.slot k = some x ∧ x.state.active = true ∧
              x.content = .leap d dir n ∧ d = monthEndOf (l.minute / 1440))) →
          t.notices = s.notices) ∧
        t = { s.setRef r (t.ref r) with
          pins := { s.pins with refe := s.pins.refe.set r (levelAfter edge) }, notices := t.notices })

/-- R51: the class of a second, and the first FAULTY cause in the order of the table. -/
def Obligations.SecondIsClassed : Prop :=
  ∀ (x : Reference) (w : Nat),
    (x.obs.edges = 0 → x.classify w = .missed) ∧
    (x.obs.edges ≠ 0 →
      (x.obs.excursion = true → x.classify w = .faulty .excursion) ∧
      (x.obs.excursion = false → 2 ≤ x.obs.edges → x.classify w = .faulty .multiple) ∧
      (x.obs.excursion = false → x.obs.edges = 1 →
        (x.obs.wordMissing = true → x.classify w = .faulty .noword) ∧
        (x.obs.wordMissing = false → x.obs.disagreed = true → x.classify w = .faulty .disagree) ∧
        (x.obs.wordMissing = false → x.obs.disagreed = false →
          (∀ b e, x.jitterBase = some b → x.obs.offset = some e →
            (w < (e - b).natAbs → x.classify w = .faulty .jitter) ∧ ((e - b).natAbs ≤ w → x.classify w = .good)) ∧
          (x.jitterBase = none → x.classify w = .good)))) ∧
    (∀ applied, (x.reviewed w applied).1.review = some (x.classify w))

/-- R53, R54: how a reviewed second moves a reference, state by state and class by class, with the loss check first on the miss count held. R50, R52, R85: at every epoch a reference that is OFF is left as it is, one whose review pending is NO has its observations emptied and becomes pending, and every other is reviewed, with the W in force in the ended second, unless that second was stepped, which skips it; each review and skip empties the observations; the jitter base is the offset of a GOOD second less the correction applied to it, and absent after any other class or a skip. -/
def Obligations.ReviewMovesAReference : Prop :=
  (∀ (x : Reference) (cls : Review), (cls = .missed ∨ cls = .good ∨ ∃ c, cls = .faulty c) →
     (x.state = .lost → cls = .good → x.move cls = ({ x with state := .qualifying, goodRun := 1 }, some .firstGood)) ∧
     (x.state = .lost → cls ≠ .good → x.move cls = (x, none)) ∧
     ((x.state = .qualifying ∨ x.state = .good ∨ x.state = .rejected) →
       (x.lossMode.limit ≤ x.missCount →
         x.move cls =
           ({ x with state := .lost, goodRun := 0, faultCount := 0, missCount := 0 }, some .misses)) ∧
       (x.missCount < x.lossMode.limit →
         (cls = .missed → x.lossMode.limit ≤ x.missCount + 1 →
           x.move cls =
             ({ x with state := .lost, goodRun := 0, faultCount := 0, missCount := 0 }, some .misses)) ∧
         (cls = .missed → x.missCount + 1 < x.lossMode.limit →
           x.move cls = ({ x with missCount := x.missCount + 1 }, none)) ∧
         (x.state = .qualifying → cls = .good →
           (x.goodRun + 1 < 10 → x.move cls = ({ x with goodRun := x.goodRun + 1, missCount := 0 }, none)) ∧
           (x.goodRun + 1 = 10 →
             x.move cls =
               ({ x with state := .good, goodRun := 0, faultCount := 0, missCount := 0 }, some .qualified))) ∧
         ((x.state = .qualifying ∨ x.state = .rejected) → (∃ c, cls = .faulty c) →
           x.move cls = ({ x with goodRun := 0, missCount := 0 }, none)) ∧
         (x.state = .good → cls = .good → x.move cls = ({ x with faultCount := 0, missCount := 0 }, none)) ∧
         (x.state = .good → (∃ c, cls = .faulty c) →
           (x.faultCount + 1 < 3 → x.move cls = ({ x with faultCount := x.faultCount + 1, missCount := 0 }, none)) ∧
           (x.faultCount + 1 = 3 →
             x.move cls =
               ({ x with state := .rejected, goodRun := 0, faultCount := 0, missCount := 0 }, some .faults))) ∧
         (x.state = .rejected → cls = .good →
           (x.goodRun + 1 < 60 → x.move cls = ({ x with goodRun := x.goodRun + 1, missCount := 0 }, none)) ∧
           (x.goodRun + 1 = 60 →
             x.move cls = ({ x with state := .qualifying, goodRun := 0, missCount := 0 }, some .recovered)))))) ∧
  (∀ s : State, s.resetHeld = false →
     ∃ t, exec .localEpoch s = .next t ∧ ∀ r : RefNo,
       ((s.ref r).state = .off → t.ref r = s.ref r) ∧
       ((s.ref r).state ≠ .off →
         ((s.ref r).reviewPending = false →
           t.ref r =
             { s.ref r with
               obs := { edges := 0, offset := none, wordMissing := false, disagreed := false, excursion := false },
               reviewPending := true }) ∧
         ((s.ref r).reviewPending = true → s.disc.stepped = true →
           t.ref r =
             { s.ref r with
               obs := { edges := 0, offset := none, wordMissing := false, disagreed := false, excursion := false },
               jitterBase := none, review := some .skipped }) ∧
         ((s.ref r).reviewPending = true → s.disc.stepped = false →
           ∀ cls, cls = (s.ref r).classify s.disc.settings.w →
             t.ref r =
               { ((s.ref r).move cls).1 with
                 obs := { edges := 0, offset := none, wordMissing := false, disagreed := false, excursion := false },
                 jitterBase :=
                   if cls = .good then
                     (s.ref r).obs.offset.map (fun e => e - ((s.counter.length : Int) - 10000000))
                   else none,
                 review := some cls })))

/-- R61: in every step a selected reference stays one that is GOOD, whatever reviews, captures and commands do. -/
def Obligations.SelectedReferenceIsGood : Prop :=
  ∀ s t : State, s.selectedGood → step s = .next t → t.selectedGood

/-! ### Discipline -/

/-- R65, R69, R72, R74 to R77, for an edge of the selected reference. In FREE it enters ACQUIRE and its second becomes the entry second, with no correction. In ACQUIRE within the entry second it corrects nothing and requests nothing. Beyond J it is a step: the correction is e, the lock run 0, the second marked, STEP listed unless masked with what was asked and what was applied, under the label of the current second, which is the model's reading (log 31); the capture's own label in its data is that of R43 (log 48). Within J it slews: by e, or by 0 within B; the lock run rises to at most 4 for a first edge within W and is 0 otherwise; at 4 with the time SET the state becomes TRACK, the flag, the awaited capture and the counts cleared, DISC_STATE listed unless masked. Outside the entry second a word requests its load (R33). -/
def Obligations.CaptureInFreeOrAcquire : Prop :=
  ∀ (s : State) (r : RefNo) (e : Int), s.meetsEdge r → e = s.offsetNow r →
    (s.disc.state = .free →
      ∃ t, exec (.referenceEdge r (s.ref r).polarity) s = .next t ∧
        t.disc = { s.disc with state := .acquire, entrySecond := true } ∧ t.counter = s.counter ∧ t.time = s.time ∧
        t.selector = s.selector ∧ t.keyer = s.keyer ∧ t.slots = s.slots ∧
        t.chains = s.chains ∧ t.monitor = s.monitor ∧
        (NoticeKind.discState ∉ s.notices.mask → t.lists (.discState .free .acquire (some r) .selected) s.time.label)) ∧
    (s.disc.state = .acquire → s.disc.entrySecond = true →
      ∃ t, exec (.referenceEdge r (s.ref r).polarity) s = .next t ∧ t.disc = s.disc ∧ t.counter = s.counter ∧
        t.time = s.time ∧ t.selector = s.selector ∧ t.keyer = s.keyer ∧ t.slots = s.slots ∧
        t.chains = s.chains ∧ t.monitor = s.monitor) ∧
    (s.disc.state = .acquire → s.disc.entrySecond = false → s.disc.settings.j < e.natAbs →
      ∃ t, exec (.referenceEdge r (s.ref r).polarity) s = .next t ∧ t.corrects s e ∧
        (NoticeKind.step ∉ s.notices.mask →
          t.lists
            (.step r e e (if (s.counter.phase : Int) < 10000000 + e then e else (s.counter.phase : Int) - 10000000)
              (if (s.counter.phase : Int) - (s.ref r).delay < 5000000 then s.time.label else s.nextLabel))
            s.time.label) ∧
        ((s.counter.phase : Int) < 10000000 + e →
          t.disc = { s.disc with lockRun := 0, stepped := true } ∧
          t.time = { s.time with pending := s.loadAfter r } ∧ t.selector = s.selector ∧ t.keyer = s.keyer ∧ t.slots = s.slots ∧
          t.chains = s.chains ∧ t.monitor = s.monitor)) ∧
    (s.disc.state = .acquire → s.disc.entrySecond = false → e.natAbs ≤ s.disc.settings.j →
      ∀ (c : Int) (run : Nat), c = (if e.natAbs ≤ s.disc.settings.b then 0 else e) →
      run = (if (s.ref r).obs.edges = 0 ∧ e.natAbs ≤ s.disc.settings.w then min 4 (s.disc.lockRun + 1) else 0) →
      ∃ t, exec (.referenceEdge r (s.ref r).polarity) s = .next t ∧ t.corrects s c ∧
        ((s.counter.phase : Int) < 10000000 + c →
          ((run < 4 ∨ s.time.label = none) → t.disc = { s.disc with lockRun := run }) ∧
          (run = 4 → s.time.label ≠ none →
            t.disc =
              { s.disc with
                state := .track, expired := false, firstAwaited := false, excursions := 0, lockRun := 0 } ∧
            (NoticeKind.discState ∉ s.notices.mask →
              t.lists (.discState .acquire .track (some r) .locked) s.time.label)) ∧
          t.time = { s.time with pending := s.loadAfter r } ∧ t.selector = s.selector ∧ t.keyer = s.keyer ∧ t.slots = s.slots ∧
          t.chains = s.chains ∧ t.monitor = s.monitor)) ∧
    (∀ w l, (s.ref r).held = some w → (s.ref r).mask.date = true →
      l = { minute := dayOfDate w.date * 1440 + w.hour * 60 + w.minute, second := w.second } →
      ((s.counter.phase : Int) - (s.ref r).delay < 5000000 →
        s.loadAfter r = some { source := .reference r, target := advance s.slots l }) ∧
      (5000000 ≤ (s.counter.phase : Int) - (s.ref r).delay →
        s.loadAfter r = some { source := .reference r, target := l }))

/-- R65, R73, for the first capture of the selected reference after a selection change, in TRACK or HOLDOVER: the awaited mark is cleared; within S the state is TRACK, the correction is 0 within B and e clamped to J beyond it, a move from HOLDOVER ends the timers and is listed as DISC_STATE with cause RESUMED unless masked, and the expired flag stays; beyond S the state is ACQUIRE with this second as its entry second, the lock run and the excursion count 0, no correction, and DISC_STATE with cause OFFSET. -/
def Obligations.FirstCaptureAfterASelection : Prop :=
  ∀ (s : State) (r : RefNo) (e c : Int), s.meetsEdge r → e = s.offsetNow r → s.disc.firstAwaited = true →
    (s.disc.state = .track ∨ s.disc.state = .holdover) →
    (e.natAbs ≤ s.disc.settings.b → c = 0) →
    (s.disc.settings.b < e.natAbs → c = max (-(s.disc.settings.j : Int)) (min (s.disc.settings.j : Int) e)) →
    (e.natAbs ≤ s.disc.settings.s →
      ∃ t, exec (.referenceEdge r (s.ref r).polarity) s = .next t ∧ t.corrects s c ∧
        (s.disc.state = .holdover → NoticeKind.discState ∉ s.notices.mask →
          (s.counter.phase : Int) < 10000000 + c →
          t.lists (.discState .holdover .track (some r) .resumed) s.time.label) ∧
        ((s.counter.phase : Int) < 10000000 + c →
          (s.disc.state = .track → t.disc = { s.disc with firstAwaited := false }) ∧
          (s.disc.state = .holdover →
            t.disc = { s.disc with state := .track, firstAwaited := false, elapsed := 0, h1Passed := false }) ∧
          t.time = s.time ∧ t.selector = s.selector ∧ t.keyer = s.keyer ∧ t.slots = s.slots ∧
          t.chains = s.chains ∧ t.monitor = s.monitor)) ∧
    (s.disc.settings.s < e.natAbs →
      ∃ t, exec (.referenceEdge r (s.ref r).polarity) s = .next t ∧ t.counter = s.counter ∧ t.time = s.time ∧
        (s.disc.state = .track →
          t.disc =
            { s.disc with
              state := .acquire, firstAwaited := false, entrySecond := true, lockRun := 0, excursions := 0 }) ∧
        (s.disc.state = .holdover →
          t.disc =
            { s.disc with
              state := .acquire, firstAwaited := false, entrySecond := true, lockRun := 0, excursions := 0,
              elapsed := 0, h1Passed := false }) ∧
        t.selector = s.selector ∧ t.keyer = s.keyer ∧ t.slots = s.slots ∧
        t.chains = s.chains ∧ t.monitor = s.monitor ∧
        (NoticeKind.discState ∉ s.notices.mask →
          t.lists (.discState s.disc.state .acquire (some r) .offset) s.time.label))

/-- R65, R70, R71, for a capture of the selected reference in TRACK that is not the first after a selection change: within S, and for the first two captures in a row beyond it, the correction is 0 within B and e clamped to J beyond it; the excursion count is 0 after one within S and one more after one beyond it; the running length is 10,000,000 plus the correction, or the second ends at once when that length is already passed. R55, R71: the third in a row beyond S rejects the selected reference: it is REJECTED with its counters 0, its second marked and its jitter base absent, it is no longer selected, the capture corrects nothing, and REF_STATE with cause EXCURSION is listed unless masked. -/
def Obligations.TrackingCapturesAndExcursions : Prop :=
  (∀ (s : State) (r : RefNo) (e c : Int), s.meetsEdge r → e = s.offsetNow r → s.disc.state = .track →
     s.disc.firstAwaited = false → (e.natAbs ≤ s.disc.settings.s ∨ s.disc.excursions < 2) →
     (e.natAbs ≤ s.disc.settings.b → c = 0) →
     (s.disc.settings.b < e.natAbs → c = max (-(s.disc.settings.j : Int)) (min (s.disc.settings.j : Int) e)) →
     ∃ t, exec (.referenceEdge r (s.ref r).polarity) s = .next t ∧ t.corrects s c ∧
       ((s.counter.phase : Int) < 10000000 + c →
         (e.natAbs ≤ s.disc.settings.s → t.disc = { s.disc with excursions := 0 }) ∧
         (s.disc.settings.s < e.natAbs → t.disc = { s.disc with excursions := s.disc.excursions + 1 }) ∧
         t.time = s.time ∧ t.selector = s.selector ∧ t.keyer = s.keyer ∧ t.slots = s.slots ∧
         t.chains = s.chains ∧ t.monitor = s.monitor)) ∧
  (∀ (s : State) (r : RefNo), s.meetsEdge r → (s.ref r).state = .good →
     s.disc.state = .track → s.disc.firstAwaited = false → s.disc.excursions = 2 →
     s.disc.settings.s < (s.offsetNow r).natAbs →
     ∃ t, exec (.referenceEdge r (s.ref r).polarity) s = .next t ∧ (t.ref r).state = .rejected ∧
       (t.ref r).goodRun = 0 ∧ (t.ref r).faultCount = 0 ∧ (t.ref r).missCount = 0 ∧
       (t.ref r).obs.excursion = true ∧ (t.ref r).jitterBase = none ∧ t.selector.selected ≠ some r ∧
       t.counter = s.counter ∧ t.disc.excursions = 0 ∧ (∀ q, q ≠ r → t.ref q = s.ref q) ∧ t.keyer = s.keyer ∧
       t.time = s.time ∧
       ((∀ q, q ≠ r → (s.ref q).state ≠ .good) →
         t.selector.selected = none ∧ t.disc.state = .holdover ∧ t.disc.elapsed = 0 ∧ t.disc.holdoverRef = some r) ∧
       (NoticeKind.refState ∉ s.notices.mask → t.lists (.refState r .good .rejected .excursion) s.time.label))

/-- R82: the quality code by discipline state, elapsed count and time status. -/
def Obligations.QualityCodeFollowsTheState : Prop :=
  ∀ s : State,
    (s.time.label = none → s.qualityCode = none) ∧ (s.disc.state = .acquire → s.qualityCode = none) ∧
    (∀ l, s.time.label = some l →
      (s.disc.state = .track → s.qualityCode = some 0) ∧
      (s.disc.state = .holdover → s.disc.elapsed ≤ s.disc.settings.h1 → s.qualityCode = some 1) ∧
      (s.disc.state = .holdover → s.disc.settings.h1 < s.disc.elapsed → s.qualityCode = some 2) ∧
      (s.disc.state = .free → s.qualityCode = some 3))

/-- R78: the epoch at which the elapsed count first reaches H1: the count rises by one, H1 passed becomes YES, and HOLDOVER_LIMIT is listed with limit H1 unless masked, whatever the order of the blocks. R79: the epoch at which the elapsed count reaches H2: the expired flag is SET, the count is 0, H1 passed is NO, HOLDOVER_LIMIT is listed with limit H2 and the count that reached it (log 13) unless masked, and the state is FREE, or ACQUIRE where a reference came to be selected at the same epoch. That both notices bear the label of that epoch is the model's reading (log 45). -/
def Obligations.HoldoverReachesItsLimits : Prop :=
  (∀ s : State, s.resetHeld = false → s.disc.state = .holdover → s.disc.h1Passed = false → s.disc.staged = none →
     s.rangeEndDue = false → s.disc.settings.h1 ≤ s.disc.elapsed + 1 → s.disc.elapsed + 1 < s.disc.settings.h2 →
     ∃ t, exec .holdoverLimitH1 s = .next t ∧ t.disc.state = .holdover ∧ t.disc.elapsed = s.disc.elapsed + 1 ∧
       t.disc.h1Passed = true ∧ t.disc.expired = s.disc.expired ∧
       (NoticeKind.holdoverLimit ∉ s.notices.mask →
         t.lists (.holdoverLimit .h1 (s.disc.elapsed + 1) s.disc.holdoverRef) t.time.label)) ∧
  (∀ s : State, s.resetHeld = false → s.disc.state = .holdover → s.disc.staged = none → s.rangeEndDue = false →
     s.disc.settings.h2 ≤ s.disc.elapsed + 1 →
     ∃ t, exec .holdoverExpiry s = .next t ∧ t.disc.expired = true ∧ t.disc.elapsed = 0 ∧ t.disc.h1Passed = false ∧
       (t.disc.state = .free ∨ t.disc.state = .acquire) ∧
       ((∀ r, (s.ref r).state = .off) → t.disc.state = .free) ∧
       (NoticeKind.holdoverLimit ∉ s.notices.mask →
         t.lists (.holdoverLimit .h2 (s.disc.elapsed + 1) s.disc.holdoverRef) t.time.label))

/-- R64, R65: in every step the running second stays bounded, so that every local second lasts between 5,000,000 and 14,999,999 ticks. -/
def Obligations.EverySecondIsBounded : Prop :=
  ∀ s t : State, s.secondBounded → step s = .next t → t.secondBounded

/-- R72, R85: in every step the law of keyed seconds is kept: while drops are scheduled the running length lies within J of 10,000,000, and outside its entry second ACQUIRE schedules none; and the second that an epoch ends, if drops were keyed in it, had a length within J of 10,000,000, one that a correction ends at once included. -/
def Obligations.KeyedSecondsStayNearNominal : Prop :=
  (∀ s t : State, s.keyedSecondHolds → step s = .next t → t.keyedSecondHolds) ∧
  (∀ s t : State, s.keyedSecondHolds → s.keyer.schedule ≠ [] → step s = .next t →
    t.disc.lastApplied = s.disc.lastApplied ∨ t.disc.lastApplied = none ∨
      ∃ c, t.disc.lastApplied = some c ∧ -(s.disc.settings.j : Int) ≤ c ∧ c ≤ s.disc.settings.j) ∧
  ∀ s : State, s.keyedSecondHolds → s.keyer.schedule ≠ [] → s.resetHeld = false →
    ∃ t c, exec .localEpoch s = .next t ∧ t.disc.lastApplied = some c ∧ -(s.disc.settings.j : Int) ≤ c ∧
      c ≤ s.disc.settings.j

/-! ### Records, keying and the envelope -/

/-- R115, R121 to R123, R190: a composition at second 50 of minute N places a record for K = N + 1 in NEXT, unmarked, of the length the table gives K, with one symbol for each of its seconds, MINUTE first, and with even parity over each group and its parity bit. R112: a composition is made at an epoch exactly when it delivers second 50 and the discipline controller gives a quality code, with that code; so the epoch after second 49 composes in FREE where no reference can change the state, and in ACQUIRE it leaves NEXT as it stands, as any epoch of another second but 0 does. R123: after the SLOT_STATE notices of the table, RECORD_DISCARD with cause REPLACED is posted when NEXT held a record, which is lost, and not otherwise, with its K, the new K and its stale mark, under the composition label. -/
def Obligations.CompositionPlacesARecord : Prop :=
  (∀ (s : State) (n q : Nat), ∃ r,
     (s.compose { minute := n, second := 50 } q).nextRecord = some r ∧ r.keyed = n + 1 ∧ r.stale = false ∧
     r.composedAt = { minute := n, second := 50 } ∧ r.fields.quality = q ∧
     r.length = minuteLength (s.compose { minute := n, second := 50 } q).slots (n + 1) ∧
     r.symbols.length = r.length ∧ r.symbols[0]? = some .minute ∧
     (∀ i, 59 ≤ i → i < r.length → r.symbols[i]? = some (.mark false false)) ∧
     (∀ i, 1 ≤ i → i ≤ 58 → ∃ a b, r.symbols[i]? = some (.mark a b) ∧
       (channelA r.fields r.parity)[i - 1]? = some a ∧ (channelB r.fields r.parity)[i - 1]? = some b) ∧
     oddOnes (minuteGroup r.fields ++ [r.parity.p1]) = false ∧ oddOnes (hourGroup r.fields ++ [r.parity.p2]) = false ∧
     oddOnes (dateGroup r.fields ++ [r.parity.p3]) = false ∧ oddOnes (offsetGroup r.fields ++ [r.parity.p4]) = false ∧
     oddOnes (statusGroup r.fields ++ [r.parity.p5]) = false ∧ oddOnes (serviceGroup r.fields ++ [r.parity.p6]) = false) ∧
  (∀ (s t : State) (l : Label) (q : Nat) (n : NoticeList), t = s.compose l q →
     n = (s.tableAtComposition (l.minute + 1) (l.minute + 2) (some l)).notices →
     (s.nextRecord = none → t.notices = n) ∧
     (∀ old, s.nextRecord = some old →
       t.notices = n.post (.recordDiscard .replaced old.keyed (l.minute + 1) old.stale) (some l)) ∧
     t.keyer = s.keyer ∧ t.disc = s.disc ∧ t.time = s.time) ∧
  (∀ s : State,
     (∀ l q, l.second = 50 → s.qualityCode = some q → s.composition (some l) = s.compose l q) ∧
     (∀ label, (label = none ∨ s.qualityCode = none ∨ ∀ l, label = some l → l.second ≠ 50) →
       s.composition label = s) ∧
     (∀ n sec, s.resetHeld = false → s.time.pending = none → s.time.label = some { minute := n, second := sec } →
       n ≤ 105189119 →
       (sec < 58 → sec ≠ 49 → ∃ t, exec .localEpoch s = .next t ∧ t.nextRecord = s.nextRecord) ∧
       (sec = 49 → (∀ r, (s.ref r).state = .off) →
         (s.disc.state = .acquire → ∃ t, exec .localEpoch s = .next t ∧ t.nextRecord = s.nextRecord) ∧
         (s.disc.state = .free →
           ∃ t r, exec .localEpoch s = .next t ∧ t.nextRecord = some r ∧ r.keyed = n + 1 ∧
             r.composedAt = { minute := n, second := 50 } ∧ r.stale = false ∧ r.fields.quality = 3))))

/-- R98, R99, R101, R116 to R120: what a record composed in minute N says of D = N + 2, from the table after its transitions and the state of the other blocks: the zone state at D and its offset, the local date and time of D under it, the weekday, the year modulo 100 and the century flag, the summer flag, the zone change, leap and leap direction flags, the chain on air, the quality code, and the service code with its present flag. -/
def Obligations.RecordDescribesItsMinute : Prop :=
  ∀ (s t : State) (n q loc : Nat) (r : Record), t = s.compose { minute := n, second := 50 } q →
    t.nextRecord = some r →
    loc = (((n + 2 : Nat) : Int) +
      (match r.zoneAt with | .standard => s.time.standardOffset | .summer => s.time.summerOffset)).toNat →
    ((∀ k x e z w, t.slot k = some x → x.state.active = true → x.content = .zone e z w → n + 2 < e) →
      r.zoneAt = s.time.zone) ∧
    (∀ k x e z w, t.slot k = some x → x.state.active = true → x.content = .zone e z w → e ≤ n + 2 →
      (∀ j y e' z' w', t.slot j = some y → j ≠ k → y.state.active = true → y.content = .zone e' z' w' →
        e' ≤ n + 2 → e' < e) →
      r.zoneAt = z) ∧
    r.fields.offset = (match r.zoneAt with | .standard => s.time.standardOffset | .summer => s.time.summerOffset) ∧
    r.fields.localMinute = loc % 1440 % 60 ∧ r.fields.localHour = loc % 1440 / 60 ∧
    r.fields.localDay = (dateOfDay (loc / 1440)).day ∧ r.fields.weekday = (loc / 1440 + 5) % 7 + 1 ∧
    r.fields.localMonth = (dateOfDay (loc / 1440)).month ∧ r.fields.localYear = (dateOfDay (loc / 1440)).year % 100 ∧
    (r.fields.century = true ↔ 2100 ≤ (dateOfDay (loc / 1440)).year) ∧ (r.fields.summer = true ↔ r.zoneAt = .summer) ∧
    (r.fields.zoneChange = true ↔ ∃ k x e z w, t.slot k = some x ∧ x.state.active = true ∧
      x.content = .zone e z w ∧ e ≤ n + 2 + w ∧ n + 2 < e) ∧
    (r.fields.leap = true ↔ ∃ k x d dir w, t.slot k = some x ∧ x.state.active = true ∧
      x.content = .leap d dir w ∧ d * 1440 + 1439 ≤ n + 2 + w ∧ n + 2 ≤ d * 1440 + 1439) ∧
    (r.fields.leapDelete = true ↔ ∃ k x d w, t.slot k = some x ∧ x.state.active = true ∧
      x.content = .leap d .delete w ∧ d * 1440 + 1439 ≤ n + 2 + w ∧ n + 2 ≤ d * 1440 + 1439 ∧
      ∀ j y d' dir' w', j < k → t.slot j = some y → y.state.active = true → y.content = .leap d' dir' w' →
        n + 2 + w' < d' * 1440 + 1439 ∨ d' * 1440 + 1439 < n + 2) ∧
    (r.fields.chainTwo = true ↔ s.chains.onAir = .two) ∧ r.fields.quality = q ∧
    ((∀ k x a b c, t.slot k = some x → x.state = .announcing → x.content = .service a b c →
        n + 2 < a ∨ b ≤ n + 2) → r.fields.present = false ∧ r.fields.code = 0) ∧
    (∀ k x a b c, t.slot k = some x → x.state = .announcing → x.content = .service a b c → a ≤ n + 2 → n + 2 < b →
      (∀ j y a' b' c', j < k → t.slot j = some y → y.state = .announcing → y.content = .service a' b' c' →
        n + 2 < a' ∨ b' ≤ n + 2) →
      r.fields.present = true ∧ r.fields.code = c)

/-- R121, R130: in every step the records in NEXT and AIR keep the parity of their fields, and a record in AIR bears no stale mark. -/
def Obligations.RecordsKeepTheirParity : Prop :=
  ∀ s t : State, s.recordsHold → step s = .next t → t.recordsHold

/-- R134, R136, R137: the keyer at an epoch keys FULL only while the maintenance mode is not INHIBIT, the time is SET and the discipline state is not ACQUIRE, and, at a boundary, only with a record in AIR that names the minute, has its length and bears no mark (that the record still fits between boundaries is FullKeyingStaysLawful); while the maintenance mode is INHIBIT, the time UNSET or the state ACQUIRE, the epoch is QUIET with no drops. R2, R3, R139: the drops of the second that begins: none in QUIET and without a label; the MINUTE drop for second 0 and the MARK drop for any other in BARE; in FULL those of the symbol of AIR for that second, MINUTE or MARK with the windows of its bits; and the monitor is handed that mode and symbol. R131: at a boundary the record in NEXT moves into AIR when it passes the three tests, and is otherwise discarded with RECORD_DISCARD, cause STALE and the first test failed; AIR is empty where NEXT was. R134: the mode is then that of the first row that holds: INHIBIT, UNSET, ACQUIRE, an expired flag with expiry action BARE, AIR empty, else FULL. R133, R136: at any other epoch a performed load tests AIR and, in FULL, leaves BARE with cause LOAD; then INHIBIT, UNSET or ACQUIRE makes the mode QUIET (the load's test first, log 20), and nothing else changes it. R138: each change of mode, and nothing else, posts KEY_MODE with its cause; the label of both notices is the epoch's (for RECORD_DISCARD at a load log 45). -/
def Obligations.FullNeedsTimeAndRecord : Prop :=
  (∀ (s : State) (c : EpochCtx),
     ((s.keyerEpoch c).keyer.mode = .full →
       s.chains.maintenance ≠ .inhibit ∧ s.time.label ≠ none ∧ s.disc.state ≠ .acquire) ∧
     ((s.chains.maintenance = .inhibit ∨ s.time.label = none ∨ s.disc.state = .acquire) →
       (s.keyerEpoch c).keyer.mode = .quiet ∧ (s.keyerEpoch c).keyer.schedule = []) ∧
     (∀ l, c.label = some l → l.second = 0 →
       (s.keyerEpoch c).nextRecord = none ∧
       ((s.keyerEpoch c).keyer.mode = .full →
         ∃ r, (s.keyerEpoch c).keyer.air = some r ∧ r.keyed = l.minute ∧ r.length = minuteLength s.slots l.minute ∧
           r.stale = false))) ∧
  (∀ (s t : State) (c : EpochCtx), t = s.keyerEpoch c →
     t.monitor.keyed.mode = t.keyer.mode ∧
     ((c.label = none ∨ t.keyer.mode = .quiet) → t.keyer.schedule = [] ∧ t.monitor.keyed.symbol = .none) ∧
     (∀ l, c.label = some l → t.keyer.mode = .bare →
       (l.second = 0 →
         t.keyer.schedule = [{ start := 0, duration := 5000000 }] ∧ t.monitor.keyed.symbol = .minute) ∧
       (l.second ≠ 0 →
         t.keyer.schedule = [{ start := 0, duration := 1000000 }] ∧ t.monitor.keyed.symbol = .mark false false)) ∧
     (∀ l r, c.label = some l → t.keyer.mode = .full → t.keyer.air = some r →
       (r.symbols[l.second]? = some .minute →
         t.keyer.schedule = [{ start := 0, duration := 5000000 }] ∧ t.monitor.keyed.symbol = .minute) ∧
       (∀ a b, r.symbols[l.second]? = some (.mark a b) →
         t.keyer.schedule =
           { start := 0, duration := 1000000 } ::
             ((if a = true then [{ start := 2000000, duration := 1000000 }] else []) ++
               (if b = true then [{ start := 4000000, duration := 1000000 }] else [])) ∧
         t.monitor.keyed.symbol = .mark a b))) ∧
  (∀ (s t : State) (c : EpochCtx) (l : Label), t = s.keyerEpoch c → c.label = some l → l.second = 0 →
     ∃ n : NoticeList,
       (s.nextRecord = none → t.keyer.air = none ∧ n = s.notices) ∧
       (∀ r, s.nextRecord = some r →
         (r.keyed = l.minute → r.length = minuteLength s.slots l.minute → r.stale = false →
           t.keyer.air = some r ∧ n = s.notices) ∧
         (∀ test,
           ((r.keyed ≠ l.minute ∧ test = .minute) ∨
             (r.keyed = l.minute ∧ r.length ≠ minuteLength s.slots l.minute ∧ test = .length) ∨
             (r.keyed = l.minute ∧ r.length = minuteLength s.slots l.minute ∧ r.stale = true ∧ test = .mark)) →
           t.keyer.air = none ∧
             n = s.notices.post (.recordDiscard (.stale test) r.keyed l.minute r.stale) (some l))) ∧
       (s.chains.maintenance = .inhibit → t.keysFrom s.keyer.mode n .quiet .inhibit (some l)) ∧
       (s.chains.maintenance ≠ .inhibit → s.time.label = none → t.keysFrom s.keyer.mode n .quiet .unset (some l)) ∧
       (s.chains.maintenance ≠ .inhibit → s.time.label ≠ none →
         (s.disc.state = .acquire → t.keysFrom s.keyer.mode n .quiet .acquire (some l)) ∧
         (s.disc.state ≠ .acquire →
           (s.disc.expired = true → s.disc.settings.expiry = .bare →
             t.keysFrom s.keyer.mode n .bare .expired (some l)) ∧
           ((s.disc.expired = false ∨ s.disc.settings.expiry = .continue) →
             (t.keyer.air = none → t.keysFrom s.keyer.mode n .bare .norecord (some l)) ∧
             (t.keyer.air ≠ none → t.keysFrom s.keyer.mode n .full .record (some l)))))) ∧
  (∀ (s t : State) (c : EpochCtx), t = s.keyerEpoch c → (∀ l, c.label = some l → l.second ≠ 0) →
     ∃ (mode : KeyMode) (n : NoticeList),
       t.nextRecord = s.nextRecord ∧
       ((c.loaded = false ∨ c.label = none ∨ s.keyer.air = none) →
         t.keyer.air = s.keyer.air ∧ mode = s.keyer.mode ∧ n = s.notices) ∧
       (∀ l r, c.loaded = true → c.label = some l → s.keyer.air = some r → r.stale = false →
         (r.keyed = l.minute → r.length = minuteLength s.slots l.minute →
           t.keyer.air = some r ∧ mode = s.keyer.mode ∧ n = s.notices) ∧
         (∀ test,
           ((r.keyed ≠ l.minute ∧ test = .minute) ∨
             (r.keyed = l.minute ∧ r.length ≠ minuteLength s.slots l.minute ∧ test = .length)) →
           ∀ m, m = s.notices.post (.recordDiscard (.stale test) r.keyed l.minute r.stale) (some l) →
           t.keyer.air = none ∧
             (s.keyer.mode ≠ .full → mode = s.keyer.mode ∧ n = m) ∧
             (s.keyer.mode = .full → mode = .bare ∧ n = m.post (.keyMode .full .bare .load) (some l)))) ∧
       (s.chains.maintenance = .inhibit → t.keysFrom mode n .quiet .inhibit c.label) ∧
       (s.chains.maintenance ≠ .inhibit → s.time.label = none → t.keysFrom mode n .quiet .unset c.label) ∧
       (s.chains.maintenance ≠ .inhibit → s.time.label ≠ none →
         (s.disc.state = .acquire → t.keysFrom mode n .quiet .acquire c.label) ∧
         (s.disc.state ≠ .acquire → t.keyer.mode = mode ∧ t.notices = n)))

/-- R137, R132: in every step the law of FULL keying is kept: the time is SET, AIR holds a record whose K and length are those of the minute being keyed, and the discipline state is ACQUIRE only in its entry second, which was keyed before; with what it rests on: both records have MINUTE and then a MARK for each of their seconds, and an unmarked record in NEXT is for the coming minute, for which no LEAP slot is still to commit. -/
def Obligations.FullKeyingStaysLawful : Prop :=
  ∀ s t : State, s.fullHolds → step s = .next t → t.fullHolds

/-- R144, R146, R194: the phases of a drop with start t0 and duration L: at each segment point the shaper enters the next phase at that phase count, to which the event jumps (log 6), with the amplitude of the table; when the amplitude changes, an output that is KEYED shows the new value at once and strobes in the two ticks after that tick; one that is HELD presents 1000. -/
def Obligations.EnvelopeFollowsTheTable : Prop :=
  ∀ (s : State) (d : Drop) (seg depth : Nat) (shape : Vector Nat 8), s.resetHeld = false →
    s.keyer.schedule[s.keyer.dropIndex]? = some d →
    s.keyer.active = { depth := depth, segment := seg, shape := shape } →
    ∃ t, exec .envelopeSegment s = .next t ∧ t.keyer.schedule = s.keyer.schedule ∧ t.keyer.active = s.keyer.active ∧
      t.time = s.time ∧ t.disc = s.disc ∧ t.chains = s.chains ∧ t.counter.length = s.counter.length ∧
      (s.keyer.phase = .idle →
        t.keyer.phase = .falling 0 ∧ t.keyer.amplitude = 1000 - ((1000 - depth) * shape[0] + 500) / 1000 ∧
          t.counter.phase = max s.counter.phase d.start) ∧
      (∀ (k : Nat) (h : k + 1 < 8), s.keyer.phase = .falling ⟨k, by omega⟩ →
        t.keyer.phase = .falling ⟨k + 1, h⟩ ∧
          t.keyer.amplitude = 1000 - ((1000 - depth) * shape[k + 1] + 500) / 1000 ∧
          t.counter.phase = max s.counter.phase (d.start + (k + 1) * seg)) ∧
      (s.keyer.phase = .falling 7 →
        t.keyer.phase = .hold ∧ t.keyer.amplitude = depth ∧
          t.counter.phase = max s.counter.phase (d.start + 8 * seg)) ∧
      (s.keyer.phase = .hold →
        t.keyer.phase = .rising 0 ∧ t.keyer.amplitude = depth + ((1000 - depth) * shape[0] + 500) / 1000 ∧
          t.counter.phase = max s.counter.phase (d.start + d.duration)) ∧
      (∀ (k : Nat) (h : k + 1 < 8), s.keyer.phase = .rising ⟨k, by omega⟩ →
        t.keyer.phase = .rising ⟨k + 1, h⟩ ∧
          t.keyer.amplitude = depth + ((1000 - depth) * shape[k + 1] + 500) / 1000 ∧
          t.counter.phase = max s.counter.phase (d.start + d.duration + (k + 1) * seg)) ∧
      (s.keyer.phase = .rising 7 →
        t.keyer.phase = .idle ∧ t.keyer.amplitude = 1000 ∧ t.keyer.dropIndex = s.keyer.dropIndex + 1 ∧
          t.counter.phase = max s.counter.phase (d.start + d.duration + 8 * seg)) ∧
      (∀ c, s.chains.gating.get c = .keyed → t.keyer.amplitude ≠ s.keyer.amplitude →
        t.presented c = t.keyer.amplitude ∧
        ∀ n, (t.reach (t.counter.phase + n)).strobe c = .high ↔ 1 ≤ n ∧ n ≤ 2) ∧
      (∀ c, s.chains.gating.get c = .held → t.presented c = 1000)

/-! ### Monitor and changeover -/

/-- R154, R155, R196: a fall of the monitor input under source NORMAL opens an interval at the phase count; the rise in the same second finishes it with start p - m and its duration, kept while fewer than four are held. R155: the observed symbol of a second: INVALID with a fifth interval or one still open that fell in it; NONE with none; MINUTE with exactly one, at the minute place; MARK with one at the mark place, at most one at each window and nothing else; INVALID in any other case; a difference of exactly the tolerance is within it (the model's reading, log 23). R156: the second that an epoch ends enters the minute under observation with its number, the symbol observed and the mode and symbol keyed; the length is fixed at the end of second 58; a boundary closes the last second, then judges, then opens the next minute. R154: with source LOOP the input line is not watched, and a segment point of the shaper is the transition where the amplitude that the on-air output presents crosses (1000 + D) div 2: a fall below it opens an interval at that point, a rise to it or above finishes it, with its start at the phase count itself, no delay subtracted; with source NORMAL a segment point is none. An interval open at a boundary where the source changes is discarded. -/
def Obligations.MonitorTimesAnInterval : Prop :=
  (∀ (s : State) (p : Nat) (n : Int), s.resetHeld = false → s.monitor.source = .normal →
     (s.pins.mon = .high → s.monitor.openInterval = none →
       ∃ t, exec (.monitorTransition .falling) s = .next t ∧ t.pins.mon = .low ∧
         t.monitor = { s.monitor with openInterval := some { phase := s.counter.phase, current := true, carried := 0 } } ∧
         t = { s with monitor := t.monitor, pins := t.pins }) ∧
     (s.pins.mon = .low → s.monitor.openInterval = some { phase := p, current := true, carried := 0 } →
       n = (p : Int) - s.monitor.settings.delay →
       ∃ t, exec (.monitorTransition .rising) s = .next t ∧ t.pins.mon = .high ∧ t.monitor.openInterval = none ∧
         (s.monitor.intervals.length < 4 →
           t.monitor.intervals = s.monitor.intervals ++ [{ start := n, duration := s.counter.phase - p }] ∧
             t.monitor.overflow = s.monitor.overflow) ∧
         (4 ≤ s.monitor.intervals.length →
           t.monitor.intervals = s.monitor.intervals ∧ t.monitor.overflow = true ∧ t.monitor.observed = .invalid) ∧
         t = { s with monitor := t.monitor, pins := t.pins })) ∧
  (∀ (m : Monitor) (T : Nat), m.settings.tolerance = T →
     ((m.overflow = true ∨ ∃ o, m.openInterval = some o ∧ o.current = true) → m.observed = .invalid) ∧
     (m.overflow = false → (∀ o, m.openInterval = some o → o.current = false) →
       (m.intervals = [] → m.observed = .none) ∧
       (∀ i, m.intervals = [i] → i.fits T 0 5000000 → m.observed = .minute) ∧
       (m.intervals ≠ [] → (∀ i, m.intervals = [i] → ¬ i.fits T 0 5000000) →
         (((m.intervals.filter (fun i => i.fits T 0 1000000)).length = 1 ∧
             (m.intervals.filter (fun i => i.fits T 2000000 1000000)).length ≤ 1 ∧
             (m.intervals.filter (fun i => i.fits T 4000000 1000000)).length ≤ 1 ∧
             ∀ i ∈ m.intervals, i.fits T 0 1000000 ∨ i.fits T 2000000 1000000 ∨ i.fits T 4000000 1000000) →
           m.observed =
             .mark (decide (∃ i ∈ m.intervals, i.fits T 2000000 1000000))
               (decide (∃ i ∈ m.intervals, i.fits T 4000000 1000000))) ∧
         (¬((m.intervals.filter (fun i => i.fits T 0 1000000)).length = 1 ∧
             (m.intervals.filter (fun i => i.fits T 2000000 1000000)).length ≤ 1 ∧
             (m.intervals.filter (fun i => i.fits T 4000000 1000000)).length ≤ 1 ∧
             ∀ i ∈ m.intervals, i.fits T 0 1000000 ∨ i.fits T 2000000 1000000 ∨ i.fits T 4000000 1000000) →
           m.observed = .invalid)))) ∧
  (∀ (s : State) (l n : Label) (e : Entry), s.resetHeld = false → s.time.pending = none → s.time.label = some l →
     s.nextLabel = some n →
     e = { second := l.second, observed := s.toEpoch.monitor.observed, keyed := s.monitor.keyed } →
     (s.monitor.source = .normal ∨ s.keyer.nextPoint = none → s.toEpoch.monitor = s.monitor) ∧
     ∃ t, exec .localEpoch s = .next t ∧ t.time.label = some n ∧ t.monitor.intervals = [] ∧
       t.monitor.overflow = false ∧
       (n.second ≠ 0 →
         t.monitor.openInterval =
           s.toEpoch.monitor.openInterval.map
             (fun o => { o with current := false, carried := o.carried + s.counter.length }) ∧
         t.monitor.observation =
           s.monitor.observation.map
             (fun o =>
               { minute := o.minute,
                 length := if l.second = 58 then some (minuteLength s.slots l.minute) else o.length,
                 entries := o.entries ++ [e] }) ∧
         t.monitor.record = s.monitor.record) ∧
       (n.second = 0 →
         t.monitor.openInterval =
           (if t.monitor.source = s.monitor.source then
             s.toEpoch.monitor.openInterval.map
               (fun o => { o with current := false, carried := o.carried + s.counter.length })
           else none) ∧
         t.monitor.observation = some { minute := n.minute, length := none, entries := [] } ∧
         (s.monitor.observation = none → t.monitor.record = s.monitor.record) ∧
         ∀ o, s.monitor.observation = some o →
           ∃ r, t.monitor.record = some r ∧ r.minute = o.minute ∧ r.source = s.monitor.source ∧
             r.observed = o.entries.map (fun x => x.observed) ++ [e.observed] ∧
             r.verdict = verdictOf s.monitor.settings.enable (o.entries ++ [e]))) ∧
  (∀ s : State, s.resetHeld = false → s.monitor.source = .loop →
     ∀ e, exec (.monitorTransition e) s = .next { s with pins := { s.pins with mon := levelAfter e } }) ∧
  (∀ (s : State) (d : Drop), s.resetHeld = false → s.keyer.schedule[s.keyer.dropIndex]? = some d →
     ∃ t, exec .envelopeSegment s = .next t ∧
       (s.monitor.source = .normal → t.monitor = s.monitor) ∧
       (s.monitor.source = .loop → ∀ before now level : Nat,
         before = s.presented s.chains.onAir → now = t.presented s.chains.onAir →
         level = (1000 + s.keyer.active.depth) / 2 →
         (s.chains.gating.get s.chains.onAir = .keyed → now = t.keyer.amplitude) ∧
         ((before < level ↔ now < level) → t.monitor = s.monitor) ∧
         (level ≤ before → now < level →
           (s.monitor.openInterval = none →
             t.monitor =
               { s.monitor with openInterval := some { phase := t.counter.phase, current := true, carried := 0 } }) ∧
           (s.monitor.openInterval ≠ none → t.monitor = s.monitor)) ∧
         (before < level → level ≤ now →
           (s.monitor.openInterval = none → t.monitor = s.monitor) ∧
           (∀ o, s.monitor.openInterval = some o →
             (o.current = false → t.monitor = { s.monitor with openInterval := none }) ∧
             (o.current = true → s.monitor.intervals.length < 4 →
               t.monitor =
                 { s.monitor with
                   openInterval := none,
                   intervals :=
                     s.monitor.intervals ++ [{ start := o.phase, duration := t.counter.phase - o.phase }] }) ∧
             (o.current = true → 4 ≤ s.monitor.intervals.length →
               t.monitor = { s.monitor with openInterval := none, overflow := true })))))

/-- R157: the verdict by its first row that holds, and the mismatch count, in which an INVALID observation always counts. -/
def Obligations.VerdictFollowsTheTable : Prop :=
  ∀ (enable : Bool) (es : List Entry),
    (enable = false → verdictOf enable es = .notChecked) ∧
    ((∃ e ∈ es, e.keyed.mode = .quiet) → verdictOf enable es = .notChecked) ∧
    (enable = true → (∀ e ∈ es, e.keyed.mode ≠ .quiet) →
      ((∀ e ∈ es, e.observed.agrees e.keyed.symbol = true) → verdictOf enable es = .good) ∧
      ((∃ e ∈ es, e.observed.agrees e.keyed.symbol = false) →
        ((∀ e ∈ es, e.observed = .none) → verdictOf enable es = .absent) ∧
        ((∃ e ∈ es, e.observed ≠ .none) → verdictOf enable es = .bad))) ∧
    mismatches es = (es.filter (fun e => !e.observed.agrees e.keyed.symbol)).length ∧
    (∀ sym, Observed.invalid.agrees sym = false)

/-- R158: a minute observed exactly as a record's symbols decodes to that record's fields, with the P5 and P6 groups passed, for every value the fields' places can hold. -/
def Obligations.HeardRecordDecodesToItsFields : Prop :=
  ∀ (f : CodeFields) (es : List Entry) (len : Nat), 59 ≤ len → f.localMinute ≤ 59 → f.localHour ≤ 23 →
    f.localDay ≤ 31 → f.weekday ≤ 7 → f.localMonth ≤ 12 → f.localYear ≤ 99 → f.magnitude ≤ 56 → f.quality ≤ 3 →
    f.code ≤ 65535 → es.map Entry.second = List.range len →
    (∀ e ∈ es, ∃ sym, (symbolList f (parityOf f) len)[e.second]? = some sym ∧ e.observed.agrees sym = true) →
    ∃ d, decodeMinute es = some d ∧ 10 * d.minuteTens + d.minuteUnits = f.localMinute ∧
      10 * d.hourTens + d.hourUnits = f.localHour ∧ 10 * d.dayTens + d.dayUnits = f.localDay ∧
      d.weekday = f.weekday ∧ 10 * d.monthTens + d.monthUnits = f.localMonth ∧
      10 * d.yearTens + d.yearUnits = f.localYear ∧ d.century = f.century ∧ d.magnitude = f.magnitude ∧
      d.west = f.west ∧ d.summer = f.summer ∧ d.zoneChange = f.zoneChange ∧ d.leap = f.leap ∧
      d.leapDelete = f.leapDelete ∧ d.chainTwo = f.chainTwo ∧ d.quality = f.quality ∧ d.present = f.present ∧
      d.code = f.code ∧ d.p5Passed = true ∧ d.p6Passed = true

/-- R162 to R164, R166: the changeover block at a boundary: a BAD or ABSENT verdict raises the verdict run, saturating at 15, GOOD clears it, NOT_CHECKED leaves it, and the verdict counted is that on the minute under observation; a PREPARING changeover completes to an asserted target or is cancelled, which leaves STEADY, the chain and the run; a failed verdict with the run at the threshold, auto ARMED and STEADY starts an AUTO changeover to a ready chain; the on-air chain is KEYED, and the other one in HOT or as a target. That the target is the chain not on air is an invariant, stated in OnAirChainChangesOnlyAtBoundaries. R163, R164: the decision posts CHANGEOVER with cause COMPLETED or CANCELLED and the automatic rule with STARTED or NOTREADY, in that order, and nothing else does; that the label is the boundary's is the model's reading (log 45). R159: a judged minute is stored with its items, sets NEW, and OVERWRITTEN where NEW was already set; BAD and ABSENT list MON_VERDICT unless masked, with the run as counted, and GOOD and NOT_CHECKED post none. -/
def Obligations.ChangeoverAtABoundary : Prop :=
  (∀ (s : State) (v : Option Verdict) (label : Option Label),
     (∀ t o, s.chains.changeover = .preparing t o → s.chains.ready.get t = .high →
       (s.changeoverBoundary v label).chains.onAir = t ∧
       (0 < s.chains.threshold → (s.changeoverBoundary v label).chains.changeover = .steady) ∧
       (s.changeoverBoundary v label).chains.verdictRun = 0 ∧
       (o = .auto → (s.changeoverBoundary v label).chains.autoArm = .spent)) ∧
     (∀ t o, s.chains.changeover = .preparing t o → t = s.chains.onAir.other → s.chains.ready.get t = .low →
       (s.changeoverBoundary v label).chains.changeover = .steady ∧
       (s.changeoverBoundary v label).chains.autoArm = s.chains.autoArm ∧
       (s.changeoverBoundary v label).chains.onAir = s.chains.onAir ∧
       (s.changeoverBoundary v label).chains.verdictRun = s.chains.verdictRun) ∧
     (s.chains.changeover = .steady →
       (s.changeoverBoundary v label).chains.onAir = s.chains.onAir ∧
       ((v = some .bad ∨ v = some .absent) → s.chains.threshold ≤ s.chains.verdictRun → s.chains.autoArm = .armed →
         s.chains.ready.get s.chains.onAir.other = .high →
         (s.changeoverBoundary v label).chains.changeover = .preparing s.chains.onAir.other .auto ∧
         (s.changeoverBoundary v label).chains.gating = { one := .keyed, two := .keyed }) ∧
       ((v = none ∨ v = some .good ∨ v = some .notChecked ∨ s.chains.verdictRun < s.chains.threshold ∨
           s.chains.autoArm = .spent ∨ s.chains.ready.get s.chains.onAir.other = .low) →
         (s.changeoverBoundary v label).chains.changeover = .steady)) ∧
     (s.countVerdict .bad = { s with chains := { s.chains with verdictRun := min 15 (s.chains.verdictRun + 1) } }) ∧
     (s.countVerdict .absent = { s with chains := { s.chains with verdictRun := min 15 (s.chains.verdictRun + 1) } }) ∧
     (s.countVerdict .good = { s with chains := { s.chains with verdictRun := 0 } }) ∧
     (s.countVerdict .notChecked = s) ∧
     (∀ o e, s.monitor.observation = some o → e = verdictOf s.monitor.settings.enable o.entries →
       s.chains.changeover = .steady →
       (s.judge label).chains.verdictRun = (s.countVerdict e).chains.verdictRun ∧
       ∀ r, (s.judge label).monitor.record = some r → r.verdict = e) ∧
     (s.monitor.observation = none → (s.judge label).chains.verdictRun = s.chains.verdictRun ∨
       ∃ t o, s.chains.changeover = .preparing t o) ∧
     ((s.changeoverBoundary v label).chains.gating.get (s.changeoverBoundary v label).chains.onAir = .keyed) ∧
     (s.chains.standby = .hot → (s.changeoverBoundary v label).chains.gating = { one := .keyed, two := .keyed }) ∧
     (s.chains.standby = .cold → (s.changeoverBoundary v label).chains.changeover = .steady →
       (s.changeoverBoundary v label).chains.gating.get (s.changeoverBoundary v label).chains.onAir.other = .held)) ∧
  (∀ (s : State) (v : Option Verdict) (label : Option Label) (rule : Prop),
     (rule ↔ (v = some .bad ∨ v = some .absent) ∧ s.chains.threshold ≤ s.chains.verdictRun ∧
       s.chains.autoArm = .armed) →
     (∀ t o, s.chains.changeover = .preparing t o → s.chains.ready.get t = .high → 0 < s.chains.threshold →
       (s.changeoverBoundary v label).notices = s.notices.post (.changeover .completed t) label) ∧
     (∀ t o, s.chains.changeover = .preparing t o → t = s.chains.onAir.other → s.chains.ready.get t = .low →
       (¬rule →
         (s.changeoverBoundary v label).notices = s.notices.post (.changeover .cancelled t) label) ∧
       (rule →
         (s.changeoverBoundary v label).notices =
           (s.notices.post (.changeover .cancelled t) label).post (.changeover .notReady t) label)) ∧
     (s.chains.changeover = .steady →
       (¬rule → (s.changeoverBoundary v label).notices = s.notices) ∧
       (rule → s.chains.ready.get s.chains.onAir.other = .high →
         (s.changeoverBoundary v label).notices =
           s.notices.post (.changeover .started s.chains.onAir.other) label) ∧
       (rule → s.chains.ready.get s.chains.onAir.other = .low →
         (s.changeoverBoundary v label).notices =
           s.notices.post (.changeover .notReady s.chains.onAir.other) label))) ∧
  (∀ (s : State) (label : Option Label) (o : Observation), s.monitor.observation = some o →
     ∃ r, (s.judge label).monitor =
         { s.monitor with
           record := some r, isNew := true, overwritten := s.monitor.overwritten || s.monitor.isNew } ∧
       r.minute = o.minute ∧ (∀ n, o.length = some n → r.length = n) ∧ r.source = s.monitor.source ∧
       r.verdict = verdictOf s.monitor.settings.enable o.entries ∧ r.mismatches = mismatches o.entries ∧
       r.observed = o.entries.map (fun e => e.observed) ∧ r.decoded = decodeMinute o.entries ∧
       ((∃ e ∈ o.entries, e.keyed.mode = .quiet) → r.mode = .quiet) ∧
       (∀ e rest, o.entries = e :: rest → (∀ x ∈ o.entries, x.keyed.mode ≠ .quiet) → r.mode = e.keyed.mode) ∧
       ((r.verdict = .bad ∨ r.verdict = .absent) → NoticeKind.monVerdict ∉ s.notices.mask →
         (s.judge label).lists
           (.monVerdict o.minute r.verdict r.mismatches (min 15 (s.chains.verdictRun + 1))) label) ∧
       ((r.verdict = .good ∨ r.verdict = .notChecked) →
         ∀ x : Notice, x.data.kind = .monVerdict →
           (x ∈ (s.judge label).notices.entries ↔ x ∈ s.notices.entries)))

/-- R163, R167: in every step the on-air chain changes only at the epoch of a minute boundary, to a chain whose ready level was seen asserted (and which was the target in PREPARING, unless the tick that brought the epoch also brought a command, log 5), or at a reset, to chain 1; and the target of a changeover stays the chain that is not on air. -/
def Obligations.OnAirChainChangesOnlyAtBoundaries : Prop :=
  (∀ s t : State, step s = .next t →
      t.chains.onAir = s.chains.onAir ∨
      (isBoundary t.time.label = true ∧ t.counter = { phase := 0, length := 10000000 } ∧
        s.chains.ready.get t.chains.onAir = .high ∧
        (s.pending = [] → TickEvent.epoch ∈ s.tickEvents) ∧
        (s.pending ≠ [] → ∃ o, s.chains.changeover = .preparing t.chains.onAir o)) ∨
      (t.chains.onAir = .one ∧ t.time.label = none ∧ t.counter = { phase := 0, length := 10000000 } ∧
        t.disc = Discipline.reset ∧ t.keyer = Keyer.reset ∧ t.monitor = Monitor.reset ∧ t.notices.mask = [] ∧
        (s.pending = [] → s.resetEnds = true))) ∧
    ∀ s t : State, s.targetIsOther → step s = .next t → t.targetIsOther

/-! ### The invariants hold after reset -/

/-- The invariants of the statements above hold in the state right after reset. -/
def Obligations.InvariantsHoldAfterReset : Prop :=
  State.reset.notices.lawful ∧ State.reset.timeBounded ∧ State.reset.selectedGood ∧ State.reset.secondBounded ∧
    State.reset.recordsHold ∧ State.reset.zoneScheduleHolds ∧ State.reset.leapSlotsHold ∧ State.reset.targetIsOther ∧
    State.reset.fullHolds ∧ State.reset.keyedSecondHolds
end

