-- ==== Sys2Proof/Laws/State.lean ====
section
/-! SUPPORT. Laws/State.lean: what each plain update does to each field of State, one lemma a field, all true by rfl. -/

namespace Sys2Proof.Machine

variable (s : State)

/-! ### post -/

@[simp] theorem State.post_time (d : NoticeData) (l : Option Label) : (s.post d l).time = s.time := rfl
@[simp] theorem State.post_refs (d : NoticeData) (l : Option Label) : (s.post d l).refs = s.refs := rfl
@[simp] theorem State.post_selector (d : NoticeData) (l : Option Label) : (s.post d l).selector = s.selector := rfl
@[simp] theorem State.post_counter (d : NoticeData) (l : Option Label) : (s.post d l).counter = s.counter := rfl
@[simp] theorem State.post_disc (d : NoticeData) (l : Option Label) : (s.post d l).disc = s.disc := rfl
@[simp] theorem State.post_slots (d : NoticeData) (l : Option Label) : (s.post d l).slots = s.slots := rfl
@[simp] theorem State.post_nextRecord (d : NoticeData) (l : Option Label) : (s.post d l).nextRecord = s.nextRecord := rfl
@[simp] theorem State.post_keyer (d : NoticeData) (l : Option Label) : (s.post d l).keyer = s.keyer := rfl
@[simp] theorem State.post_chains (d : NoticeData) (l : Option Label) : (s.post d l).chains = s.chains := rfl
@[simp] theorem State.post_monitor (d : NoticeData) (l : Option Label) : (s.post d l).monitor = s.monitor := rfl
@[simp] theorem State.post_port (d : NoticeData) (l : Option Label) : (s.post d l).port = s.port := rfl
@[simp] theorem State.post_notices (d : NoticeData) (l : Option Label) : (s.post d l).notices = s.notices.post d l := rfl
@[simp] theorem State.post_strobes (d : NoticeData) (l : Option Label) : (s.post d l).strobes = s.strobes := rfl
@[simp] theorem State.post_pins (d : NoticeData) (l : Option Label) : (s.post d l).pins = s.pins := rfl
@[simp] theorem State.post_receivers (d : NoticeData) (l : Option Label) : (s.post d l).receivers = s.receivers := rfl
@[simp] theorem State.post_lines (d : NoticeData) (l : Option Label) : (s.post d l).lines = s.lines := rfl
@[simp] theorem State.post_resetHeld (d : NoticeData) (l : Option Label) : (s.post d l).resetHeld = s.resetHeld := rfl
@[simp] theorem State.post_freeCount (d : NoticeData) (l : Option Label) : (s.post d l).freeCount = s.freeCount := rfl
@[simp] theorem State.post_pending (d : NoticeData) (l : Option Label) : (s.post d l).pending = s.pending := rfl

/-! ### countFree -/

@[simp] theorem State.countFree_time : s.countFree.time = s.time := rfl
@[simp] theorem State.countFree_refs : s.countFree.refs = s.refs := rfl
@[simp] theorem State.countFree_selector : s.countFree.selector = s.selector := rfl
@[simp] theorem State.countFree_counter : s.countFree.counter = s.counter := rfl
@[simp] theorem State.countFree_disc : s.countFree.disc = s.disc := rfl
@[simp] theorem State.countFree_slots : s.countFree.slots = s.slots := rfl
@[simp] theorem State.countFree_nextRecord : s.countFree.nextRecord = s.nextRecord := rfl
@[simp] theorem State.countFree_keyer : s.countFree.keyer = s.keyer := rfl
@[simp] theorem State.countFree_chains : s.countFree.chains = s.chains := rfl
@[simp] theorem State.countFree_monitor : s.countFree.monitor = s.monitor := rfl
@[simp] theorem State.countFree_port : s.countFree.port = s.port := rfl
@[simp] theorem State.countFree_notices : s.countFree.notices = s.notices := rfl
@[simp] theorem State.countFree_strobes : s.countFree.strobes = s.strobes := rfl
@[simp] theorem State.countFree_pins : s.countFree.pins = s.pins := rfl
@[simp] theorem State.countFree_receivers : s.countFree.receivers = s.receivers := rfl
@[simp] theorem State.countFree_lines : s.countFree.lines = s.lines := rfl
@[simp] theorem State.countFree_resetHeld : s.countFree.resetHeld = s.resetHeld := rfl
@[simp] theorem State.countFree_freeCount : s.countFree.freeCount = s.freeCount + 1 := rfl
@[simp] theorem State.countFree_pending : s.countFree.pending = s.pending := rfl

/-! ### setRef -/

@[simp] theorem State.setRef_time (r : RefNo) (x : Reference) : (s.setRef r x).time = s.time := rfl
@[simp] theorem State.setRef_refs (r : RefNo) (x : Reference) : (s.setRef r x).refs = s.refs.set r x := rfl
@[simp] theorem State.setRef_selector (r : RefNo) (x : Reference) : (s.setRef r x).selector = s.selector := rfl
@[simp] theorem State.setRef_counter (r : RefNo) (x : Reference) : (s.setRef r x).counter = s.counter := rfl
@[simp] theorem State.setRef_disc (r : RefNo) (x : Reference) : (s.setRef r x).disc = s.disc := rfl
@[simp] theorem State.setRef_slots (r : RefNo) (x : Reference) : (s.setRef r x).slots = s.slots := rfl
@[simp] theorem State.setRef_nextRecord (r : RefNo) (x : Reference) : (s.setRef r x).nextRecord = s.nextRecord := rfl
@[simp] theorem State.setRef_keyer (r : RefNo) (x : Reference) : (s.setRef r x).keyer = s.keyer := rfl
@[simp] theorem State.setRef_chains (r : RefNo) (x : Reference) : (s.setRef r x).chains = s.chains := rfl
@[simp] theorem State.setRef_monitor (r : RefNo) (x : Reference) : (s.setRef r x).monitor = s.monitor := rfl
@[simp] theorem State.setRef_port (r : RefNo) (x : Reference) : (s.setRef r x).port = s.port := rfl
@[simp] theorem State.setRef_notices (r : RefNo) (x : Reference) : (s.setRef r x).notices = s.notices := rfl
@[simp] theorem State.setRef_strobes (r : RefNo) (x : Reference) : (s.setRef r x).strobes = s.strobes := rfl
@[simp] theorem State.setRef_pins (r : RefNo) (x : Reference) : (s.setRef r x).pins = s.pins := rfl
@[simp] theorem State.setRef_receivers (r : RefNo) (x : Reference) : (s.setRef r x).receivers = s.receivers := rfl
@[simp] theorem State.setRef_lines (r : RefNo) (x : Reference) : (s.setRef r x).lines = s.lines := rfl
@[simp] theorem State.setRef_resetHeld (r : RefNo) (x : Reference) : (s.setRef r x).resetHeld = s.resetHeld := rfl
@[simp] theorem State.setRef_freeCount (r : RefNo) (x : Reference) : (s.setRef r x).freeCount = s.freeCount := rfl
@[simp] theorem State.setRef_pending (r : RefNo) (x : Reference) : (s.setRef r x).pending = s.pending := rfl

/-! ### setSlot -/

@[simp] theorem State.setSlot_time (k : SlotNo) (x : Option Slot) : (s.setSlot k x).time = s.time := rfl
@[simp] theorem State.setSlot_refs (k : SlotNo) (x : Option Slot) : (s.setSlot k x).refs = s.refs := rfl
@[simp] theorem State.setSlot_selector (k : SlotNo) (x : Option Slot) : (s.setSlot k x).selector = s.selector := rfl
@[simp] theorem State.setSlot_counter (k : SlotNo) (x : Option Slot) : (s.setSlot k x).counter = s.counter := rfl
@[simp] theorem State.setSlot_disc (k : SlotNo) (x : Option Slot) : (s.setSlot k x).disc = s.disc := rfl
@[simp] theorem State.setSlot_slots (k : SlotNo) (x : Option Slot) : (s.setSlot k x).slots = s.slots.set k x := rfl
@[simp] theorem State.setSlot_nextRecord (k : SlotNo) (x : Option Slot) : (s.setSlot k x).nextRecord = s.nextRecord := rfl
@[simp] theorem State.setSlot_keyer (k : SlotNo) (x : Option Slot) : (s.setSlot k x).keyer = s.keyer := rfl
@[simp] theorem State.setSlot_chains (k : SlotNo) (x : Option Slot) : (s.setSlot k x).chains = s.chains := rfl
@[simp] theorem State.setSlot_monitor (k : SlotNo) (x : Option Slot) : (s.setSlot k x).monitor = s.monitor := rfl
@[simp] theorem State.setSlot_port (k : SlotNo) (x : Option Slot) : (s.setSlot k x).port = s.port := rfl
@[simp] theorem State.setSlot_notices (k : SlotNo) (x : Option Slot) : (s.setSlot k x).notices = s.notices := rfl
@[simp] theorem State.setSlot_strobes (k : SlotNo) (x : Option Slot) : (s.setSlot k x).strobes = s.strobes := rfl
@[simp] theorem State.setSlot_pins (k : SlotNo) (x : Option Slot) : (s.setSlot k x).pins = s.pins := rfl
@[simp] theorem State.setSlot_receivers (k : SlotNo) (x : Option Slot) : (s.setSlot k x).receivers = s.receivers := rfl
@[simp] theorem State.setSlot_lines (k : SlotNo) (x : Option Slot) : (s.setSlot k x).lines = s.lines := rfl
@[simp] theorem State.setSlot_resetHeld (k : SlotNo) (x : Option Slot) : (s.setSlot k x).resetHeld = s.resetHeld := rfl
@[simp] theorem State.setSlot_freeCount (k : SlotNo) (x : Option Slot) : (s.setSlot k x).freeCount = s.freeCount := rfl
@[simp] theorem State.setSlot_pending (k : SlotNo) (x : Option Slot) : (s.setSlot k x).pending = s.pending := rfl

/-! ### reach -/

@[simp] theorem State.reach_time (t : Nat) : (s.reach t).time = s.time := rfl
@[simp] theorem State.reach_refs (t : Nat) : (s.reach t).refs = s.refs := rfl
@[simp] theorem State.reach_selector (t : Nat) : (s.reach t).selector = s.selector := rfl
@[simp] theorem State.reach_counter (t : Nat) : (s.reach t).counter = { s.counter with phase := max s.counter.phase t } := rfl
@[simp] theorem State.reach_disc (t : Nat) : (s.reach t).disc = s.disc := rfl
@[simp] theorem State.reach_slots (t : Nat) : (s.reach t).slots = s.slots := rfl
@[simp] theorem State.reach_nextRecord (t : Nat) : (s.reach t).nextRecord = s.nextRecord := rfl
@[simp] theorem State.reach_keyer (t : Nat) : (s.reach t).keyer = s.keyer := rfl
@[simp] theorem State.reach_chains (t : Nat) : (s.reach t).chains = s.chains := rfl
@[simp] theorem State.reach_monitor (t : Nat) : (s.reach t).monitor = s.monitor := rfl
@[simp] theorem State.reach_port (t : Nat) : (s.reach t).port = s.port := rfl
@[simp] theorem State.reach_notices (t : Nat) : (s.reach t).notices = s.notices := rfl
@[simp] theorem State.reach_strobes (t : Nat) : (s.reach t).strobes = strobesAfter (t - s.counter.phase) s.strobes := rfl
@[simp] theorem State.reach_pins (t : Nat) : (s.reach t).pins = s.pins := rfl
@[simp] theorem State.reach_receivers (t : Nat) : (s.reach t).receivers = s.receivers := rfl
@[simp] theorem State.reach_lines (t : Nat) : (s.reach t).lines = s.lines := rfl
@[simp] theorem State.reach_resetHeld (t : Nat) : (s.reach t).resetHeld = s.resetHeld := rfl
@[simp] theorem State.reach_freeCount (t : Nat) : (s.reach t).freeCount = s.freeCount := rfl
@[simp] theorem State.reach_pending (t : Nat) : (s.reach t).pending = s.pending := rfl

/-! ### setZone -/

@[simp] theorem State.setZone_time (z : Zone) : (s.setZone z).time = { s.time with zone := z } := rfl
@[simp] theorem State.setZone_refs (z : Zone) : (s.setZone z).refs = s.refs := rfl
@[simp] theorem State.setZone_selector (z : Zone) : (s.setZone z).selector = s.selector := rfl
@[simp] theorem State.setZone_counter (z : Zone) : (s.setZone z).counter = s.counter := rfl
@[simp] theorem State.setZone_disc (z : Zone) : (s.setZone z).disc = s.disc := rfl
@[simp] theorem State.setZone_slots (z : Zone) : (s.setZone z).slots = s.slots := rfl
@[simp] theorem State.setZone_nextRecord (z : Zone) : (s.setZone z).nextRecord = s.nextRecord := rfl
@[simp] theorem State.setZone_keyer (z : Zone) : (s.setZone z).keyer = s.keyer := rfl
@[simp] theorem State.setZone_chains (z : Zone) : (s.setZone z).chains = s.chains := rfl
@[simp] theorem State.setZone_monitor (z : Zone) : (s.setZone z).monitor = s.monitor := rfl
@[simp] theorem State.setZone_port (z : Zone) : (s.setZone z).port = s.port := rfl
@[simp] theorem State.setZone_notices (z : Zone) : (s.setZone z).notices = s.notices := rfl
@[simp] theorem State.setZone_strobes (z : Zone) : (s.setZone z).strobes = s.strobes := rfl
@[simp] theorem State.setZone_pins (z : Zone) : (s.setZone z).pins = s.pins := rfl
@[simp] theorem State.setZone_receivers (z : Zone) : (s.setZone z).receivers = s.receivers := rfl
@[simp] theorem State.setZone_lines (z : Zone) : (s.setZone z).lines = s.lines := rfl
@[simp] theorem State.setZone_resetHeld (z : Zone) : (s.setZone z).resetHeld = s.resetHeld := rfl
@[simp] theorem State.setZone_freeCount (z : Zone) : (s.setZone z).freeCount = s.freeCount := rfl
@[simp] theorem State.setZone_pending (z : Zone) : (s.setZone z).pending = s.pending := rfl

/-! ### requestLoad -/

@[simp] theorem State.requestLoad_time (src : LoadSource) (g : Label) : (s.requestLoad src g).time = { s.time with pending := some { source := src, target := g } } := rfl
@[simp] theorem State.requestLoad_refs (src : LoadSource) (g : Label) : (s.requestLoad src g).refs = s.refs := rfl
@[simp] theorem State.requestLoad_selector (src : LoadSource) (g : Label) : (s.requestLoad src g).selector = s.selector := rfl
@[simp] theorem State.requestLoad_counter (src : LoadSource) (g : Label) : (s.requestLoad src g).counter = s.counter := rfl
@[simp] theorem State.requestLoad_disc (src : LoadSource) (g : Label) : (s.requestLoad src g).disc = s.disc := rfl
@[simp] theorem State.requestLoad_slots (src : LoadSource) (g : Label) : (s.requestLoad src g).slots = s.slots := rfl
@[simp] theorem State.requestLoad_nextRecord (src : LoadSource) (g : Label) : (s.requestLoad src g).nextRecord = s.nextRecord := rfl
@[simp] theorem State.requestLoad_keyer (src : LoadSource) (g : Label) : (s.requestLoad src g).keyer = s.keyer := rfl
@[simp] theorem State.requestLoad_chains (src : LoadSource) (g : Label) : (s.requestLoad src g).chains = s.chains := rfl
@[simp] theorem State.requestLoad_monitor (src : LoadSource) (g : Label) : (s.requestLoad src g).monitor = s.monitor := rfl
@[simp] theorem State.requestLoad_port (src : LoadSource) (g : Label) : (s.requestLoad src g).port = s.port := rfl
@[simp] theorem State.requestLoad_notices (src : LoadSource) (g : Label) : (s.requestLoad src g).notices = s.notices := rfl
@[simp] theorem State.requestLoad_strobes (src : LoadSource) (g : Label) : (s.requestLoad src g).strobes = s.strobes := rfl
@[simp] theorem State.requestLoad_pins (src : LoadSource) (g : Label) : (s.requestLoad src g).pins = s.pins := rfl
@[simp] theorem State.requestLoad_receivers (src : LoadSource) (g : Label) : (s.requestLoad src g).receivers = s.receivers := rfl
@[simp] theorem State.requestLoad_lines (src : LoadSource) (g : Label) : (s.requestLoad src g).lines = s.lines := rfl
@[simp] theorem State.requestLoad_resetHeld (src : LoadSource) (g : Label) : (s.requestLoad src g).resetHeld = s.resetHeld := rfl
@[simp] theorem State.requestLoad_freeCount (src : LoadSource) (g : Label) : (s.requestLoad src g).freeCount = s.freeCount := rfl
@[simp] theorem State.requestLoad_pending (src : LoadSource) (g : Label) : (s.requestLoad src g).pending = s.pending := rfl

/-! ### clearExpired -/

@[simp] theorem State.clearExpired_time : s.clearExpired.time = s.time := rfl
@[simp] theorem State.clearExpired_refs : s.clearExpired.refs = s.refs := rfl
@[simp] theorem State.clearExpired_selector : s.clearExpired.selector = s.selector := rfl
@[simp] theorem State.clearExpired_counter : s.clearExpired.counter = s.counter := rfl
@[simp] theorem State.clearExpired_disc : s.clearExpired.disc = { s.disc with expired := false } := rfl
@[simp] theorem State.clearExpired_slots : s.clearExpired.slots = s.slots := rfl
@[simp] theorem State.clearExpired_nextRecord : s.clearExpired.nextRecord = s.nextRecord := rfl
@[simp] theorem State.clearExpired_keyer : s.clearExpired.keyer = s.keyer := rfl
@[simp] theorem State.clearExpired_chains : s.clearExpired.chains = s.chains := rfl
@[simp] theorem State.clearExpired_monitor : s.clearExpired.monitor = s.monitor := rfl
@[simp] theorem State.clearExpired_port : s.clearExpired.port = s.port := rfl
@[simp] theorem State.clearExpired_notices : s.clearExpired.notices = s.notices := rfl
@[simp] theorem State.clearExpired_strobes : s.clearExpired.strobes = s.strobes := rfl
@[simp] theorem State.clearExpired_pins : s.clearExpired.pins = s.pins := rfl
@[simp] theorem State.clearExpired_receivers : s.clearExpired.receivers = s.receivers := rfl
@[simp] theorem State.clearExpired_lines : s.clearExpired.lines = s.lines := rfl
@[simp] theorem State.clearExpired_resetHeld : s.clearExpired.resetHeld = s.resetHeld := rfl
@[simp] theorem State.clearExpired_freeCount : s.clearExpired.freeCount = s.freeCount := rfl
@[simp] theorem State.clearExpired_pending : s.clearExpired.pending = s.pending := rfl

/-! ### markStale -/

@[simp] theorem State.markStale_time : s.markStale.time = s.time := rfl
@[simp] theorem State.markStale_refs : s.markStale.refs = s.refs := rfl
@[simp] theorem State.markStale_selector : s.markStale.selector = s.selector := rfl
@[simp] theorem State.markStale_counter : s.markStale.counter = s.counter := rfl
@[simp] theorem State.markStale_disc : s.markStale.disc = s.disc := rfl
@[simp] theorem State.markStale_slots : s.markStale.slots = s.slots := rfl
@[simp] theorem State.markStale_nextRecord : s.markStale.nextRecord = s.nextRecord.map (fun r => { r with stale := true }) := rfl
@[simp] theorem State.markStale_keyer : s.markStale.keyer = s.keyer := rfl
@[simp] theorem State.markStale_chains : s.markStale.chains = s.chains := rfl
@[simp] theorem State.markStale_monitor : s.markStale.monitor = s.monitor := rfl
@[simp] theorem State.markStale_port : s.markStale.port = s.port := rfl
@[simp] theorem State.markStale_notices : s.markStale.notices = s.notices := rfl
@[simp] theorem State.markStale_strobes : s.markStale.strobes = s.strobes := rfl
@[simp] theorem State.markStale_pins : s.markStale.pins = s.pins := rfl
@[simp] theorem State.markStale_receivers : s.markStale.receivers = s.receivers := rfl
@[simp] theorem State.markStale_lines : s.markStale.lines = s.lines := rfl
@[simp] theorem State.markStale_resetHeld : s.markStale.resetHeld = s.resetHeld := rfl
@[simp] theorem State.markStale_freeCount : s.markStale.freeCount = s.freeCount := rfl
@[simp] theorem State.markStale_pending : s.markStale.pending = s.pending := rfl

/-! ### correct -/

@[simp] theorem State.correct_time (c : Int) : (s.correct c).time = s.time := rfl
@[simp] theorem State.correct_refs (c : Int) : (s.correct c).refs = s.refs := rfl
@[simp] theorem State.correct_selector (c : Int) : (s.correct c).selector = s.selector := rfl
@[simp] theorem State.correct_counter (c : Int) : (s.correct c).counter = { s.counter with length := max (askedLength c) s.counter.phase } := rfl
@[simp] theorem State.correct_disc (c : Int) : (s.correct c).disc = s.disc := rfl
@[simp] theorem State.correct_slots (c : Int) : (s.correct c).slots = s.slots := rfl
@[simp] theorem State.correct_nextRecord (c : Int) : (s.correct c).nextRecord = s.nextRecord := rfl
@[simp] theorem State.correct_keyer (c : Int) : (s.correct c).keyer = s.keyer := rfl
@[simp] theorem State.correct_chains (c : Int) : (s.correct c).chains = s.chains := rfl
@[simp] theorem State.correct_monitor (c : Int) : (s.correct c).monitor = s.monitor := rfl
@[simp] theorem State.correct_port (c : Int) : (s.correct c).port = s.port := rfl
@[simp] theorem State.correct_notices (c : Int) : (s.correct c).notices = s.notices := rfl
@[simp] theorem State.correct_strobes (c : Int) : (s.correct c).strobes = s.strobes := rfl
@[simp] theorem State.correct_pins (c : Int) : (s.correct c).pins = s.pins := rfl
@[simp] theorem State.correct_receivers (c : Int) : (s.correct c).receivers = s.receivers := rfl
@[simp] theorem State.correct_lines (c : Int) : (s.correct c).lines = s.lines := rfl
@[simp] theorem State.correct_resetHeld (c : Int) : (s.correct c).resetHeld = s.resetHeld := rfl
@[simp] theorem State.correct_freeCount (c : Int) : (s.correct c).freeCount = s.freeCount := rfl
@[simp] theorem State.correct_pending (c : Int) : (s.correct c).pending = s.pending := rfl

/-! ### setAir -/

@[simp] theorem State.setAir_time (r : Option Record) : (s.setAir r).time = s.time := rfl
@[simp] theorem State.setAir_refs (r : Option Record) : (s.setAir r).refs = s.refs := rfl
@[simp] theorem State.setAir_selector (r : Option Record) : (s.setAir r).selector = s.selector := rfl
@[simp] theorem State.setAir_counter (r : Option Record) : (s.setAir r).counter = s.counter := rfl
@[simp] theorem State.setAir_disc (r : Option Record) : (s.setAir r).disc = s.disc := rfl
@[simp] theorem State.setAir_slots (r : Option Record) : (s.setAir r).slots = s.slots := rfl
@[simp] theorem State.setAir_nextRecord (r : Option Record) : (s.setAir r).nextRecord = s.nextRecord := rfl
@[simp] theorem State.setAir_keyer (r : Option Record) : (s.setAir r).keyer = { s.keyer with air := r } := rfl
@[simp] theorem State.setAir_chains (r : Option Record) : (s.setAir r).chains = s.chains := rfl
@[simp] theorem State.setAir_monitor (r : Option Record) : (s.setAir r).monitor = s.monitor := rfl
@[simp] theorem State.setAir_port (r : Option Record) : (s.setAir r).port = s.port := rfl
@[simp] theorem State.setAir_notices (r : Option Record) : (s.setAir r).notices = s.notices := rfl
@[simp] theorem State.setAir_strobes (r : Option Record) : (s.setAir r).strobes = s.strobes := rfl
@[simp] theorem State.setAir_pins (r : Option Record) : (s.setAir r).pins = s.pins := rfl
@[simp] theorem State.setAir_receivers (r : Option Record) : (s.setAir r).receivers = s.receivers := rfl
@[simp] theorem State.setAir_lines (r : Option Record) : (s.setAir r).lines = s.lines := rfl
@[simp] theorem State.setAir_resetHeld (r : Option Record) : (s.setAir r).resetHeld = s.resetHeld := rfl
@[simp] theorem State.setAir_freeCount (r : Option Record) : (s.setAir r).freeCount = s.freeCount := rfl
@[simp] theorem State.setAir_pending (r : Option Record) : (s.setAir r).pending = s.pending := rfl

/-! ### hunting -/

@[simp] theorem State.hunting_time : s.hunting.time = s.time := rfl
@[simp] theorem State.hunting_refs : s.hunting.refs = s.refs := rfl
@[simp] theorem State.hunting_selector : s.hunting.selector = s.selector := rfl
@[simp] theorem State.hunting_counter : s.hunting.counter = s.counter := rfl
@[simp] theorem State.hunting_disc : s.hunting.disc = s.disc := rfl
@[simp] theorem State.hunting_slots : s.hunting.slots = s.slots := rfl
@[simp] theorem State.hunting_nextRecord : s.hunting.nextRecord = s.nextRecord := rfl
@[simp] theorem State.hunting_keyer : s.hunting.keyer = s.keyer := rfl
@[simp] theorem State.hunting_chains : s.hunting.chains = s.chains := rfl
@[simp] theorem State.hunting_monitor : s.hunting.monitor = s.monitor := rfl
@[simp] theorem State.hunting_port : s.hunting.port = { s.port with receive := .hunting, buffer := [], overlong := false, badChar := false } := rfl
@[simp] theorem State.hunting_notices : s.hunting.notices = s.notices := rfl
@[simp] theorem State.hunting_strobes : s.hunting.strobes = s.strobes := rfl
@[simp] theorem State.hunting_pins : s.hunting.pins = s.pins := rfl
@[simp] theorem State.hunting_receivers : s.hunting.receivers = s.receivers := rfl
@[simp] theorem State.hunting_lines : s.hunting.lines = s.lines := rfl
@[simp] theorem State.hunting_resetHeld : s.hunting.resetHeld = s.resetHeld := rfl
@[simp] theorem State.hunting_freeCount : s.hunting.freeCount = s.freeCount := rfl
@[simp] theorem State.hunting_pending : s.hunting.pending = s.pending := rfl

/-! ### startReply -/

@[simp] theorem State.startReply_time (t : Text) (b : Bool) : (s.startReply t b).time = s.time := rfl
@[simp] theorem State.startReply_refs (t : Text) (b : Bool) : (s.startReply t b).refs = s.refs := rfl
@[simp] theorem State.startReply_selector (t : Text) (b : Bool) : (s.startReply t b).selector = s.selector := rfl
@[simp] theorem State.startReply_counter (t : Text) (b : Bool) : (s.startReply t b).counter = s.counter := rfl
@[simp] theorem State.startReply_disc (t : Text) (b : Bool) : (s.startReply t b).disc = s.disc := rfl
@[simp] theorem State.startReply_slots (t : Text) (b : Bool) : (s.startReply t b).slots = s.slots := rfl
@[simp] theorem State.startReply_nextRecord (t : Text) (b : Bool) : (s.startReply t b).nextRecord = s.nextRecord := rfl
@[simp] theorem State.startReply_keyer (t : Text) (b : Bool) : (s.startReply t b).keyer = s.keyer := rfl
@[simp] theorem State.startReply_chains (t : Text) (b : Bool) : (s.startReply t b).chains = s.chains := rfl
@[simp] theorem State.startReply_monitor (t : Text) (b : Bool) : (s.startReply t b).monitor = s.monitor := rfl
@[simp] theorem State.startReply_port (t : Text) (b : Bool) : (s.startReply t b).port = { s.port with reply := some { toSend := t, ticksLeft := s.port.speed.charTicks, resets := b } } := rfl
@[simp] theorem State.startReply_notices (t : Text) (b : Bool) : (s.startReply t b).notices = s.notices := rfl
@[simp] theorem State.startReply_strobes (t : Text) (b : Bool) : (s.startReply t b).strobes = s.strobes := rfl
@[simp] theorem State.startReply_pins (t : Text) (b : Bool) : (s.startReply t b).pins = s.pins := rfl
@[simp] theorem State.startReply_receivers (t : Text) (b : Bool) : (s.startReply t b).receivers = s.receivers := rfl
@[simp] theorem State.startReply_lines (t : Text) (b : Bool) : (s.startReply t b).lines = s.lines := rfl
@[simp] theorem State.startReply_resetHeld (t : Text) (b : Bool) : (s.startReply t b).resetHeld = s.resetHeld := rfl
@[simp] theorem State.startReply_freeCount (t : Text) (b : Bool) : (s.startReply t b).freeCount = s.freeCount := rfl
@[simp] theorem State.startReply_pending (t : Text) (b : Bool) : (s.startReply t b).pending = s.pending := rfl

/-! ### startRecord -/

@[simp] theorem State.startRecord_time : s.startRecord.time = s.time := rfl
@[simp] theorem State.startRecord_refs : s.startRecord.refs = s.refs := rfl
@[simp] theorem State.startRecord_selector : s.startRecord.selector = s.selector := rfl
@[simp] theorem State.startRecord_counter : s.startRecord.counter = s.counter := rfl
@[simp] theorem State.startRecord_disc : s.startRecord.disc = s.disc := rfl
@[simp] theorem State.startRecord_slots : s.startRecord.slots = s.slots := rfl
@[simp] theorem State.startRecord_nextRecord : s.startRecord.nextRecord = s.nextRecord := rfl
@[simp] theorem State.startRecord_keyer : s.startRecord.keyer = s.keyer := rfl
@[simp] theorem State.startRecord_chains : s.startRecord.chains = s.chains := rfl
@[simp] theorem State.startRecord_monitor : s.startRecord.monitor = s.monitor := rfl
@[simp] theorem State.startRecord_port : s.startRecord.port = { s.port with receive := .assembling, buffer := [':'], overlong := false, badChar := false } := rfl
@[simp] theorem State.startRecord_notices : s.startRecord.notices = s.notices := rfl
@[simp] theorem State.startRecord_strobes : s.startRecord.strobes = s.strobes := rfl
@[simp] theorem State.startRecord_pins : s.startRecord.pins = s.pins := rfl
@[simp] theorem State.startRecord_receivers : s.startRecord.receivers = s.receivers := rfl
@[simp] theorem State.startRecord_lines : s.startRecord.lines = s.lines := rfl
@[simp] theorem State.startRecord_resetHeld : s.startRecord.resetHeld = s.resetHeld := rfl
@[simp] theorem State.startRecord_freeCount : s.startRecord.freeCount = s.freeCount := rfl
@[simp] theorem State.startRecord_pending : s.startRecord.pending = s.pending := rfl

/-! ### markBad -/

@[simp] theorem State.markBad_time : s.markBad.time = s.time := rfl
@[simp] theorem State.markBad_refs : s.markBad.refs = s.refs := rfl
@[simp] theorem State.markBad_selector : s.markBad.selector = s.selector := rfl
@[simp] theorem State.markBad_counter : s.markBad.counter = s.counter := rfl
@[simp] theorem State.markBad_disc : s.markBad.disc = s.disc := rfl
@[simp] theorem State.markBad_slots : s.markBad.slots = s.slots := rfl
@[simp] theorem State.markBad_nextRecord : s.markBad.nextRecord = s.nextRecord := rfl
@[simp] theorem State.markBad_keyer : s.markBad.keyer = s.keyer := rfl
@[simp] theorem State.markBad_chains : s.markBad.chains = s.chains := rfl
@[simp] theorem State.markBad_monitor : s.markBad.monitor = s.monitor := rfl
@[simp] theorem State.markBad_port : s.markBad.port = { s.port with badChar := true } := rfl
@[simp] theorem State.markBad_notices : s.markBad.notices = s.notices := rfl
@[simp] theorem State.markBad_strobes : s.markBad.strobes = s.strobes := rfl
@[simp] theorem State.markBad_pins : s.markBad.pins = s.pins := rfl
@[simp] theorem State.markBad_receivers : s.markBad.receivers = s.receivers := rfl
@[simp] theorem State.markBad_lines : s.markBad.lines = s.lines := rfl
@[simp] theorem State.markBad_resetHeld : s.markBad.resetHeld = s.resetHeld := rfl
@[simp] theorem State.markBad_freeCount : s.markBad.freeCount = s.freeCount := rfl
@[simp] theorem State.markBad_pending : s.markBad.pending = s.pending := rfl

/-! ### postLink -/

@[simp] theorem State.postLink_time (k : LinkCause) : (s.postLink k).time = s.time := rfl
@[simp] theorem State.postLink_refs (k : LinkCause) : (s.postLink k).refs = s.refs := rfl
@[simp] theorem State.postLink_selector (k : LinkCause) : (s.postLink k).selector = s.selector := rfl
@[simp] theorem State.postLink_counter (k : LinkCause) : (s.postLink k).counter = s.counter := rfl
@[simp] theorem State.postLink_disc (k : LinkCause) : (s.postLink k).disc = s.disc := rfl
@[simp] theorem State.postLink_slots (k : LinkCause) : (s.postLink k).slots = s.slots := rfl
@[simp] theorem State.postLink_nextRecord (k : LinkCause) : (s.postLink k).nextRecord = s.nextRecord := rfl
@[simp] theorem State.postLink_keyer (k : LinkCause) : (s.postLink k).keyer = s.keyer := rfl
@[simp] theorem State.postLink_chains (k : LinkCause) : (s.postLink k).chains = s.chains := rfl
@[simp] theorem State.postLink_monitor (k : LinkCause) : (s.postLink k).monitor = s.monitor := rfl
@[simp] theorem State.postLink_port (k : LinkCause) : (s.postLink k).port = s.port := rfl
@[simp] theorem State.postLink_notices (k : LinkCause) : (s.postLink k).notices = s.notices.post (.link k) s.now := rfl
@[simp] theorem State.postLink_strobes (k : LinkCause) : (s.postLink k).strobes = s.strobes := rfl
@[simp] theorem State.postLink_pins (k : LinkCause) : (s.postLink k).pins = s.pins := rfl
@[simp] theorem State.postLink_receivers (k : LinkCause) : (s.postLink k).receivers = s.receivers := rfl
@[simp] theorem State.postLink_lines (k : LinkCause) : (s.postLink k).lines = s.lines := rfl
@[simp] theorem State.postLink_resetHeld (k : LinkCause) : (s.postLink k).resetHeld = s.resetHeld := rfl
@[simp] theorem State.postLink_freeCount (k : LinkCause) : (s.postLink k).freeCount = s.freeCount := rfl
@[simp] theorem State.postLink_pending (k : LinkCause) : (s.postLink k).pending = s.pending := rfl

/-! ### setMonPin -/

@[simp] theorem State.setMonPin_time (l : Level) : (s.setMonPin l).time = s.time := rfl
@[simp] theorem State.setMonPin_refs (l : Level) : (s.setMonPin l).refs = s.refs := rfl
@[simp] theorem State.setMonPin_selector (l : Level) : (s.setMonPin l).selector = s.selector := rfl
@[simp] theorem State.setMonPin_counter (l : Level) : (s.setMonPin l).counter = s.counter := rfl
@[simp] theorem State.setMonPin_disc (l : Level) : (s.setMonPin l).disc = s.disc := rfl
@[simp] theorem State.setMonPin_slots (l : Level) : (s.setMonPin l).slots = s.slots := rfl
@[simp] theorem State.setMonPin_nextRecord (l : Level) : (s.setMonPin l).nextRecord = s.nextRecord := rfl
@[simp] theorem State.setMonPin_keyer (l : Level) : (s.setMonPin l).keyer = s.keyer := rfl
@[simp] theorem State.setMonPin_chains (l : Level) : (s.setMonPin l).chains = s.chains := rfl
@[simp] theorem State.setMonPin_monitor (l : Level) : (s.setMonPin l).monitor = s.monitor := rfl
@[simp] theorem State.setMonPin_port (l : Level) : (s.setMonPin l).port = s.port := rfl
@[simp] theorem State.setMonPin_notices (l : Level) : (s.setMonPin l).notices = s.notices := rfl
@[simp] theorem State.setMonPin_strobes (l : Level) : (s.setMonPin l).strobes = s.strobes := rfl
@[simp] theorem State.setMonPin_pins (l : Level) : (s.setMonPin l).pins = { s.pins with mon := l } := rfl
@[simp] theorem State.setMonPin_receivers (l : Level) : (s.setMonPin l).receivers = s.receivers := rfl
@[simp] theorem State.setMonPin_lines (l : Level) : (s.setMonPin l).lines = s.lines := rfl
@[simp] theorem State.setMonPin_resetHeld (l : Level) : (s.setMonPin l).resetHeld = s.resetHeld := rfl
@[simp] theorem State.setMonPin_freeCount (l : Level) : (s.setMonPin l).freeCount = s.freeCount := rfl
@[simp] theorem State.setMonPin_pending (l : Level) : (s.setMonPin l).pending = s.pending := rfl

/-! ### setEdgePin -/

@[simp] theorem State.setEdgePin_time (r : RefNo) (l : Level) : (s.setEdgePin r l).time = s.time := rfl
@[simp] theorem State.setEdgePin_refs (r : RefNo) (l : Level) : (s.setEdgePin r l).refs = s.refs := rfl
@[simp] theorem State.setEdgePin_selector (r : RefNo) (l : Level) : (s.setEdgePin r l).selector = s.selector := rfl
@[simp] theorem State.setEdgePin_counter (r : RefNo) (l : Level) : (s.setEdgePin r l).counter = s.counter := rfl
@[simp] theorem State.setEdgePin_disc (r : RefNo) (l : Level) : (s.setEdgePin r l).disc = s.disc := rfl
@[simp] theorem State.setEdgePin_slots (r : RefNo) (l : Level) : (s.setEdgePin r l).slots = s.slots := rfl
@[simp] theorem State.setEdgePin_nextRecord (r : RefNo) (l : Level) : (s.setEdgePin r l).nextRecord = s.nextRecord := rfl
@[simp] theorem State.setEdgePin_keyer (r : RefNo) (l : Level) : (s.setEdgePin r l).keyer = s.keyer := rfl
@[simp] theorem State.setEdgePin_chains (r : RefNo) (l : Level) : (s.setEdgePin r l).chains = s.chains := rfl
@[simp] theorem State.setEdgePin_monitor (r : RefNo) (l : Level) : (s.setEdgePin r l).monitor = s.monitor := rfl
@[simp] theorem State.setEdgePin_port (r : RefNo) (l : Level) : (s.setEdgePin r l).port = s.port := rfl
@[simp] theorem State.setEdgePin_notices (r : RefNo) (l : Level) : (s.setEdgePin r l).notices = s.notices := rfl
@[simp] theorem State.setEdgePin_strobes (r : RefNo) (l : Level) : (s.setEdgePin r l).strobes = s.strobes := rfl
@[simp] theorem State.setEdgePin_pins (r : RefNo) (l : Level) : (s.setEdgePin r l).pins = { s.pins with refe := s.pins.refe.set r l } := rfl
@[simp] theorem State.setEdgePin_receivers (r : RefNo) (l : Level) : (s.setEdgePin r l).receivers = s.receivers := rfl
@[simp] theorem State.setEdgePin_lines (r : RefNo) (l : Level) : (s.setEdgePin r l).lines = s.lines := rfl
@[simp] theorem State.setEdgePin_resetHeld (r : RefNo) (l : Level) : (s.setEdgePin r l).resetHeld = s.resetHeld := rfl
@[simp] theorem State.setEdgePin_freeCount (r : RefNo) (l : Level) : (s.setEdgePin r l).freeCount = s.freeCount := rfl
@[simp] theorem State.setEdgePin_pending (r : RefNo) (l : Level) : (s.setEdgePin r l).pending = s.pending := rfl

/-! ### setReadyPin -/

@[simp] theorem State.setReadyPin_time (c : Chain) (l : Level) : (s.setReadyPin c l).time = s.time := rfl
@[simp] theorem State.setReadyPin_refs (c : Chain) (l : Level) : (s.setReadyPin c l).refs = s.refs := rfl
@[simp] theorem State.setReadyPin_selector (c : Chain) (l : Level) : (s.setReadyPin c l).selector = s.selector := rfl
@[simp] theorem State.setReadyPin_counter (c : Chain) (l : Level) : (s.setReadyPin c l).counter = s.counter := rfl
@[simp] theorem State.setReadyPin_disc (c : Chain) (l : Level) : (s.setReadyPin c l).disc = s.disc := rfl
@[simp] theorem State.setReadyPin_slots (c : Chain) (l : Level) : (s.setReadyPin c l).slots = s.slots := rfl
@[simp] theorem State.setReadyPin_nextRecord (c : Chain) (l : Level) : (s.setReadyPin c l).nextRecord = s.nextRecord := rfl
@[simp] theorem State.setReadyPin_keyer (c : Chain) (l : Level) : (s.setReadyPin c l).keyer = s.keyer := rfl
@[simp] theorem State.setReadyPin_chains (c : Chain) (l : Level) : (s.setReadyPin c l).chains = s.chains := rfl
@[simp] theorem State.setReadyPin_monitor (c : Chain) (l : Level) : (s.setReadyPin c l).monitor = s.monitor := rfl
@[simp] theorem State.setReadyPin_port (c : Chain) (l : Level) : (s.setReadyPin c l).port = s.port := rfl
@[simp] theorem State.setReadyPin_notices (c : Chain) (l : Level) : (s.setReadyPin c l).notices = s.notices := rfl
@[simp] theorem State.setReadyPin_strobes (c : Chain) (l : Level) : (s.setReadyPin c l).strobes = s.strobes := rfl
@[simp] theorem State.setReadyPin_pins (c : Chain) (l : Level) : (s.setReadyPin c l).pins = { s.pins with rdy := s.pins.rdy.set c l } := rfl
@[simp] theorem State.setReadyPin_receivers (c : Chain) (l : Level) : (s.setReadyPin c l).receivers = s.receivers := rfl
@[simp] theorem State.setReadyPin_lines (c : Chain) (l : Level) : (s.setReadyPin c l).lines = s.lines := rfl
@[simp] theorem State.setReadyPin_resetHeld (c : Chain) (l : Level) : (s.setReadyPin c l).resetHeld = s.resetHeld := rfl
@[simp] theorem State.setReadyPin_freeCount (c : Chain) (l : Level) : (s.setReadyPin c l).freeCount = s.freeCount := rfl
@[simp] theorem State.setReadyPin_pending (c : Chain) (l : Level) : (s.setReadyPin c l).pending = s.pending := rfl

/-! ### abandon -/

@[simp] theorem State.abandon_time : s.abandon.time = s.time := rfl
@[simp] theorem State.abandon_refs : s.abandon.refs = s.refs := rfl
@[simp] theorem State.abandon_selector : s.abandon.selector = s.selector := rfl
@[simp] theorem State.abandon_counter : s.abandon.counter = s.counter := rfl
@[simp] theorem State.abandon_disc : s.abandon.disc = s.disc := rfl
@[simp] theorem State.abandon_slots : s.abandon.slots = s.slots := rfl
@[simp] theorem State.abandon_nextRecord : s.abandon.nextRecord = s.nextRecord := rfl
@[simp] theorem State.abandon_keyer : s.abandon.keyer = s.keyer := rfl
@[simp] theorem State.abandon_chains : s.abandon.chains = s.chains := rfl
@[simp] theorem State.abandon_monitor : s.abandon.monitor = { s.monitor with observation := none } := rfl
@[simp] theorem State.abandon_port : s.abandon.port = s.port := rfl
@[simp] theorem State.abandon_notices : s.abandon.notices = s.notices := rfl
@[simp] theorem State.abandon_strobes : s.abandon.strobes = s.strobes := rfl
@[simp] theorem State.abandon_pins : s.abandon.pins = s.pins := rfl
@[simp] theorem State.abandon_receivers : s.abandon.receivers = s.receivers := rfl
@[simp] theorem State.abandon_lines : s.abandon.lines = s.lines := rfl
@[simp] theorem State.abandon_resetHeld : s.abandon.resetHeld = s.resetHeld := rfl
@[simp] theorem State.abandon_freeCount : s.abandon.freeCount = s.freeCount := rfl
@[simp] theorem State.abandon_pending : s.abandon.pending = s.pending := rfl

/-! ### gate -/

@[simp] theorem State.gate_time : s.gate.time = s.time := rfl
@[simp] theorem State.gate_refs : s.gate.refs = s.refs := rfl
@[simp] theorem State.gate_selector : s.gate.selector = s.selector := rfl
@[simp] theorem State.gate_counter : s.gate.counter = s.counter := rfl
@[simp] theorem State.gate_disc : s.gate.disc = s.disc := rfl
@[simp] theorem State.gate_slots : s.gate.slots = s.slots := rfl
@[simp] theorem State.gate_nextRecord : s.gate.nextRecord = s.nextRecord := rfl
@[simp] theorem State.gate_keyer : s.gate.keyer = s.keyer := rfl
@[simp] theorem State.gate_chains : s.gate.chains = { s.chains with gating := { one := gateOf s.chains .one, two := gateOf s.chains .two } } := rfl
@[simp] theorem State.gate_monitor : s.gate.monitor = s.monitor := rfl
@[simp] theorem State.gate_port : s.gate.port = s.port := rfl
@[simp] theorem State.gate_notices : s.gate.notices = s.notices := rfl
@[simp] theorem State.gate_strobes : s.gate.strobes = s.strobes := rfl
@[simp] theorem State.gate_pins : s.gate.pins = s.pins := rfl
@[simp] theorem State.gate_receivers : s.gate.receivers = s.receivers := rfl
@[simp] theorem State.gate_lines : s.gate.lines = s.lines := rfl
@[simp] theorem State.gate_resetHeld : s.gate.resetHeld = s.resetHeld := rfl
@[simp] theorem State.gate_freeCount : s.gate.freeCount = s.freeCount := rfl
@[simp] theorem State.gate_pending : s.gate.pending = s.pending := rfl

/-! ### countVerdict -/

@[simp] theorem State.countVerdict_time (v : Verdict) : (s.countVerdict v).time = s.time := rfl
@[simp] theorem State.countVerdict_refs (v : Verdict) : (s.countVerdict v).refs = s.refs := rfl
@[simp] theorem State.countVerdict_selector (v : Verdict) : (s.countVerdict v).selector = s.selector := rfl
@[simp] theorem State.countVerdict_counter (v : Verdict) : (s.countVerdict v).counter = s.counter := rfl
@[simp] theorem State.countVerdict_disc (v : Verdict) : (s.countVerdict v).disc = s.disc := rfl
@[simp] theorem State.countVerdict_slots (v : Verdict) : (s.countVerdict v).slots = s.slots := rfl
@[simp] theorem State.countVerdict_nextRecord (v : Verdict) : (s.countVerdict v).nextRecord = s.nextRecord := rfl
@[simp] theorem State.countVerdict_keyer (v : Verdict) : (s.countVerdict v).keyer = s.keyer := rfl
@[simp] theorem State.countVerdict_chains (v : Verdict) : (s.countVerdict v).chains = { s.chains with verdictRun := runAfter s.chains.verdictRun v } := rfl
@[simp] theorem State.countVerdict_monitor (v : Verdict) : (s.countVerdict v).monitor = s.monitor := rfl
@[simp] theorem State.countVerdict_port (v : Verdict) : (s.countVerdict v).port = s.port := rfl
@[simp] theorem State.countVerdict_notices (v : Verdict) : (s.countVerdict v).notices = s.notices := rfl
@[simp] theorem State.countVerdict_strobes (v : Verdict) : (s.countVerdict v).strobes = s.strobes := rfl
@[simp] theorem State.countVerdict_pins (v : Verdict) : (s.countVerdict v).pins = s.pins := rfl
@[simp] theorem State.countVerdict_receivers (v : Verdict) : (s.countVerdict v).receivers = s.receivers := rfl
@[simp] theorem State.countVerdict_lines (v : Verdict) : (s.countVerdict v).lines = s.lines := rfl
@[simp] theorem State.countVerdict_resetHeld (v : Verdict) : (s.countVerdict v).resetHeld = s.resetHeld := rfl
@[simp] theorem State.countVerdict_freeCount (v : Verdict) : (s.countVerdict v).freeCount = s.freeCount := rfl
@[simp] theorem State.countVerdict_pending (v : Verdict) : (s.countVerdict v).pending = s.pending := rfl

/-! ### beginSecond -/

@[simp] theorem State.beginSecond_time : s.beginSecond.time = s.time := rfl
@[simp] theorem State.beginSecond_refs : s.beginSecond.refs = s.refs := rfl
@[simp] theorem State.beginSecond_selector : s.beginSecond.selector = s.selector := rfl
@[simp] theorem State.beginSecond_counter : s.beginSecond.counter = { phase := 0, length := nominalSecond } := rfl
@[simp] theorem State.beginSecond_disc : s.beginSecond.disc = { s.disc with entrySecond := false, stepped := false, lastApplied := some ((s.counter.length : Int) - nominalSecond) } := rfl
@[simp] theorem State.beginSecond_slots : s.beginSecond.slots = s.slots := rfl
@[simp] theorem State.beginSecond_nextRecord : s.beginSecond.nextRecord = s.nextRecord := rfl
@[simp] theorem State.beginSecond_keyer : s.beginSecond.keyer = s.keyer := rfl
@[simp] theorem State.beginSecond_chains : s.beginSecond.chains = s.chains := rfl
@[simp] theorem State.beginSecond_monitor : s.beginSecond.monitor = s.monitor := rfl
@[simp] theorem State.beginSecond_port : s.beginSecond.port = s.port := rfl
@[simp] theorem State.beginSecond_notices : s.beginSecond.notices = s.notices := rfl
@[simp] theorem State.beginSecond_strobes : s.beginSecond.strobes = s.strobes := rfl
@[simp] theorem State.beginSecond_pins : s.beginSecond.pins = s.pins := rfl
@[simp] theorem State.beginSecond_receivers : s.beginSecond.receivers = s.receivers := rfl
@[simp] theorem State.beginSecond_lines : s.beginSecond.lines = s.lines := rfl
@[simp] theorem State.beginSecond_resetHeld : s.beginSecond.resetHeld = s.resetHeld := rfl
@[simp] theorem State.beginSecond_freeCount : s.beginSecond.freeCount = s.freeCount := rfl
@[simp] theorem State.beginSecond_pending : s.beginSecond.pending = s.pending := rfl

/-! ### closeSecond -/

@[simp] theorem State.closeSecond_time (c : EpochCtx) : (s.closeSecond c).time = s.time := rfl
@[simp] theorem State.closeSecond_refs (c : EpochCtx) : (s.closeSecond c).refs = s.refs := rfl
@[simp] theorem State.closeSecond_selector (c : EpochCtx) : (s.closeSecond c).selector = s.selector := rfl
@[simp] theorem State.closeSecond_counter (c : EpochCtx) : (s.closeSecond c).counter = s.counter := rfl
@[simp] theorem State.closeSecond_disc (c : EpochCtx) : (s.closeSecond c).disc = s.disc := rfl
@[simp] theorem State.closeSecond_slots (c : EpochCtx) : (s.closeSecond c).slots = s.slots := rfl
@[simp] theorem State.closeSecond_nextRecord (c : EpochCtx) : (s.closeSecond c).nextRecord = s.nextRecord := rfl
@[simp] theorem State.closeSecond_keyer (c : EpochCtx) : (s.closeSecond c).keyer = s.keyer := rfl
@[simp] theorem State.closeSecond_chains (c : EpochCtx) : (s.closeSecond c).chains = s.chains := rfl
@[simp] theorem State.closeSecond_port (c : EpochCtx) : (s.closeSecond c).port = s.port := rfl
@[simp] theorem State.closeSecond_notices (c : EpochCtx) : (s.closeSecond c).notices = s.notices := rfl
@[simp] theorem State.closeSecond_strobes (c : EpochCtx) : (s.closeSecond c).strobes = s.strobes := rfl
@[simp] theorem State.closeSecond_pins (c : EpochCtx) : (s.closeSecond c).pins = s.pins := rfl
@[simp] theorem State.closeSecond_receivers (c : EpochCtx) : (s.closeSecond c).receivers = s.receivers := rfl
@[simp] theorem State.closeSecond_lines (c : EpochCtx) : (s.closeSecond c).lines = s.lines := rfl
@[simp] theorem State.closeSecond_resetHeld (c : EpochCtx) : (s.closeSecond c).resetHeld = s.resetHeld := rfl
@[simp] theorem State.closeSecond_freeCount (c : EpochCtx) : (s.closeSecond c).freeCount = s.freeCount := rfl
@[simp] theorem State.closeSecond_pending (c : EpochCtx) : (s.closeSecond c).pending = s.pending := rfl

/-! ### openObservation -/

@[simp] theorem State.openObservation_time (m : Nat) : (s.openObservation m).time = s.time := rfl
@[simp] theorem State.openObservation_refs (m : Nat) : (s.openObservation m).refs = s.refs := rfl
@[simp] theorem State.openObservation_selector (m : Nat) : (s.openObservation m).selector = s.selector := rfl
@[simp] theorem State.openObservation_counter (m : Nat) : (s.openObservation m).counter = s.counter := rfl
@[simp] theorem State.openObservation_disc (m : Nat) : (s.openObservation m).disc = s.disc := rfl
@[simp] theorem State.openObservation_slots (m : Nat) : (s.openObservation m).slots = s.slots := rfl
@[simp] theorem State.openObservation_nextRecord (m : Nat) : (s.openObservation m).nextRecord = s.nextRecord := rfl
@[simp] theorem State.openObservation_keyer (m : Nat) : (s.openObservation m).keyer = s.keyer := rfl
@[simp] theorem State.openObservation_chains (m : Nat) : (s.openObservation m).chains = s.chains := rfl
@[simp] theorem State.openObservation_port (m : Nat) : (s.openObservation m).port = s.port := rfl
@[simp] theorem State.openObservation_notices (m : Nat) : (s.openObservation m).notices = s.notices := rfl
@[simp] theorem State.openObservation_strobes (m : Nat) : (s.openObservation m).strobes = s.strobes := rfl
@[simp] theorem State.openObservation_pins (m : Nat) : (s.openObservation m).pins = s.pins := rfl
@[simp] theorem State.openObservation_receivers (m : Nat) : (s.openObservation m).receivers = s.receivers := rfl
@[simp] theorem State.openObservation_lines (m : Nat) : (s.openObservation m).lines = s.lines := rfl
@[simp] theorem State.openObservation_resetHeld (m : Nat) : (s.openObservation m).resetHeld = s.resetHeld := rfl
@[simp] theorem State.openObservation_freeCount (m : Nat) : (s.openObservation m).freeCount = s.freeCount := rfl
@[simp] theorem State.openObservation_pending (m : Nat) : (s.openObservation m).pending = s.pending := rfl

/-! ### strobeChange -/

@[simp] theorem State.strobeChange_time (b : Bool) : (s.strobeChange b).time = s.time := rfl
@[simp] theorem State.strobeChange_refs (b : Bool) : (s.strobeChange b).refs = s.refs := rfl
@[simp] theorem State.strobeChange_selector (b : Bool) : (s.strobeChange b).selector = s.selector := rfl
@[simp] theorem State.strobeChange_counter (b : Bool) : (s.strobeChange b).counter = s.counter := rfl
@[simp] theorem State.strobeChange_disc (b : Bool) : (s.strobeChange b).disc = s.disc := rfl
@[simp] theorem State.strobeChange_slots (b : Bool) : (s.strobeChange b).slots = s.slots := rfl
@[simp] theorem State.strobeChange_nextRecord (b : Bool) : (s.strobeChange b).nextRecord = s.nextRecord := rfl
@[simp] theorem State.strobeChange_keyer (b : Bool) : (s.strobeChange b).keyer = s.keyer := rfl
@[simp] theorem State.strobeChange_chains (b : Bool) : (s.strobeChange b).chains = s.chains := rfl
@[simp] theorem State.strobeChange_monitor (b : Bool) : (s.strobeChange b).monitor = s.monitor := rfl
@[simp] theorem State.strobeChange_port (b : Bool) : (s.strobeChange b).port = s.port := rfl
@[simp] theorem State.strobeChange_notices (b : Bool) : (s.strobeChange b).notices = s.notices := rfl
@[simp] theorem State.strobeChange_pins (b : Bool) : (s.strobeChange b).pins = s.pins := rfl
@[simp] theorem State.strobeChange_receivers (b : Bool) : (s.strobeChange b).receivers = s.receivers := rfl
@[simp] theorem State.strobeChange_lines (b : Bool) : (s.strobeChange b).lines = s.lines := rfl
@[simp] theorem State.strobeChange_resetHeld (b : Bool) : (s.strobeChange b).resetHeld = s.resetHeld := rfl
@[simp] theorem State.strobeChange_freeCount (b : Bool) : (s.strobeChange b).freeCount = s.freeCount := rfl
@[simp] theorem State.strobeChange_pending (b : Bool) : (s.strobeChange b).pending = s.pending := rfl

/-! ### makeSchedule -/

@[simp] theorem State.makeSchedule_time (l : Option Label) : (s.makeSchedule l).time = s.time := rfl
@[simp] theorem State.makeSchedule_refs (l : Option Label) : (s.makeSchedule l).refs = s.refs := rfl
@[simp] theorem State.makeSchedule_selector (l : Option Label) : (s.makeSchedule l).selector = s.selector := rfl
@[simp] theorem State.makeSchedule_counter (l : Option Label) : (s.makeSchedule l).counter = s.counter := rfl
@[simp] theorem State.makeSchedule_disc (l : Option Label) : (s.makeSchedule l).disc = s.disc := rfl
@[simp] theorem State.makeSchedule_slots (l : Option Label) : (s.makeSchedule l).slots = s.slots := rfl
@[simp] theorem State.makeSchedule_nextRecord (l : Option Label) : (s.makeSchedule l).nextRecord = s.nextRecord := rfl
@[simp] theorem State.makeSchedule_chains (l : Option Label) : (s.makeSchedule l).chains = s.chains := rfl
@[simp] theorem State.makeSchedule_port (l : Option Label) : (s.makeSchedule l).port = s.port := rfl
@[simp] theorem State.makeSchedule_notices (l : Option Label) : (s.makeSchedule l).notices = s.notices := rfl
@[simp] theorem State.makeSchedule_strobes (l : Option Label) : (s.makeSchedule l).strobes = s.strobes := rfl
@[simp] theorem State.makeSchedule_pins (l : Option Label) : (s.makeSchedule l).pins = s.pins := rfl
@[simp] theorem State.makeSchedule_receivers (l : Option Label) : (s.makeSchedule l).receivers = s.receivers := rfl
@[simp] theorem State.makeSchedule_lines (l : Option Label) : (s.makeSchedule l).lines = s.lines := rfl
@[simp] theorem State.makeSchedule_resetHeld (l : Option Label) : (s.makeSchedule l).resetHeld = s.resetHeld := rfl
@[simp] theorem State.makeSchedule_freeCount (l : Option Label) : (s.makeSchedule l).freeCount = s.freeCount := rfl
@[simp] theorem State.makeSchedule_pending (l : Option Label) : (s.makeSchedule l).pending = s.pending := rfl

/-! ### passTick -/

@[simp] theorem State.passTick_time : s.passTick.time = s.time := rfl
@[simp] theorem State.passTick_refs : s.passTick.refs = s.refs := rfl
@[simp] theorem State.passTick_selector : s.passTick.selector = s.selector := rfl
@[simp] theorem State.passTick_counter : s.passTick.counter = { s.counter with phase := max s.counter.phase (s.counter.phase + 1) } := rfl
@[simp] theorem State.passTick_disc : s.passTick.disc = s.disc := rfl
@[simp] theorem State.passTick_slots : s.passTick.slots = s.slots := rfl
@[simp] theorem State.passTick_nextRecord : s.passTick.nextRecord = s.nextRecord := rfl
@[simp] theorem State.passTick_keyer : s.passTick.keyer = s.keyer := rfl
@[simp] theorem State.passTick_chains : s.passTick.chains = s.chains := rfl
@[simp] theorem State.passTick_monitor : s.passTick.monitor = s.monitor := rfl
@[simp] theorem State.passTick_port : s.passTick.port = { s.port with reply := s.port.reply.map (fun t => { t with ticksLeft := t.ticksLeft - 1 }) } := rfl
@[simp] theorem State.passTick_notices : s.passTick.notices = s.notices := rfl
@[simp] theorem State.passTick_strobes : s.passTick.strobes = strobesAfter (s.counter.phase + 1 - s.counter.phase) s.strobes := rfl
@[simp] theorem State.passTick_pins : s.passTick.pins = s.pins := rfl
@[simp] theorem State.passTick_receivers : s.passTick.receivers = s.sampledReceivers := rfl
@[simp] theorem State.passTick_lines : s.passTick.lines = s.lines.advanced := rfl
@[simp] theorem State.passTick_resetHeld : s.passTick.resetHeld = s.resetHeld := rfl
@[simp] theorem State.passTick_freeCount : s.passTick.freeCount = s.freeCount := rfl
@[simp] theorem State.passTick_pending : s.passTick.pending = s.pending := rfl

/-! ### setCarried -/

@[simp] theorem State.setCarried_time (d : Nat) : (s.setCarried d).time = s.time := rfl
@[simp] theorem State.setCarried_refs (d : Nat) : (s.setCarried d).refs = s.refs := rfl
@[simp] theorem State.setCarried_selector (d : Nat) : (s.setCarried d).selector = s.selector := rfl
@[simp] theorem State.setCarried_counter (d : Nat) : (s.setCarried d).counter = s.counter := rfl
@[simp] theorem State.setCarried_disc (d : Nat) : (s.setCarried d).disc = s.disc := rfl
@[simp] theorem State.setCarried_nextRecord (d : Nat) : (s.setCarried d).nextRecord = s.nextRecord := rfl
@[simp] theorem State.setCarried_keyer (d : Nat) : (s.setCarried d).keyer = s.keyer := rfl
@[simp] theorem State.setCarried_chains (d : Nat) : (s.setCarried d).chains = s.chains := rfl
@[simp] theorem State.setCarried_monitor (d : Nat) : (s.setCarried d).monitor = s.monitor := rfl
@[simp] theorem State.setCarried_port (d : Nat) : (s.setCarried d).port = s.port := rfl
@[simp] theorem State.setCarried_notices (d : Nat) : (s.setCarried d).notices = s.notices := rfl
@[simp] theorem State.setCarried_strobes (d : Nat) : (s.setCarried d).strobes = s.strobes := rfl
@[simp] theorem State.setCarried_pins (d : Nat) : (s.setCarried d).pins = s.pins := rfl
@[simp] theorem State.setCarried_receivers (d : Nat) : (s.setCarried d).receivers = s.receivers := rfl
@[simp] theorem State.setCarried_lines (d : Nat) : (s.setCarried d).lines = s.lines := rfl
@[simp] theorem State.setCarried_resetHeld (d : Nat) : (s.setCarried d).resetHeld = s.resetHeld := rfl
@[simp] theorem State.setCarried_freeCount (d : Nat) : (s.setCarried d).freeCount = s.freeCount := rfl
@[simp] theorem State.setCarried_pending (d : Nat) : (s.setCarried d).pending = s.pending := rfl

end Sys2Proof.Machine
end

