-- ==== Sys2Proof/Laws/Frames.lean ====
section
/-! SUPPORT. Laws/Frames.lean: for each shared operation, one lemma that says which fields of State it leaves as they are. -/

namespace Sys2Proof.Machine

variable (s : State)

/-- What every step of a fold keeps, the fold keeps. -/
theorem foldl_keeps {α β γ : Type} (g : β → γ) (f : β → α → β) (h : ∀ b a, g (f b a) = g b) (xs : List α) (b : β) :
    g (xs.foldl f b) = g b := by
  induction xs generalizing b with
  | nil => rfl
  | cons x xs ih => rw [List.foldl_cons, ih, h]

/-- R83: a change of discipline state. -/
@[simp] theorem State.setDisc_frame (d : Discipline) (k : DiscCause) (l : Option Label) :
    (s.setDisc d k l).time = s.time ∧ (s.setDisc d k l).refs = s.refs ∧ (s.setDisc d k l).selector = s.selector ∧ (s.setDisc d k l).counter = s.counter ∧ (s.setDisc d k l).slots = s.slots ∧ (s.setDisc d k l).nextRecord = s.nextRecord ∧ (s.setDisc d k l).keyer = s.keyer ∧ (s.setDisc d k l).chains = s.chains ∧ (s.setDisc d k l).monitor = s.monitor ∧ (s.setDisc d k l).port = s.port ∧ (s.setDisc d k l).strobes = s.strobes ∧ (s.setDisc d k l).pins = s.pins ∧ (s.setDisc d k l).receivers = s.receivers ∧ (s.setDisc d k l).lines = s.lines ∧ (s.setDisc d k l).resetHeld = s.resetHeld ∧ (s.setDisc d k l).freeCount = s.freeCount ∧ (s.setDisc d k l).pending = s.pending := by
  simp [State.setDisc]

/-- R68: the discipline controller's reaction to a selection. -/
@[simp] theorem State.takeSelection_frame (p n : Option RefNo) (l : Option Label) :
    (s.takeSelection p n l).time = s.time ∧ (s.takeSelection p n l).refs = s.refs ∧ (s.takeSelection p n l).selector = s.selector ∧ (s.takeSelection p n l).counter = s.counter ∧ (s.takeSelection p n l).slots = s.slots ∧ (s.takeSelection p n l).nextRecord = s.nextRecord ∧ (s.takeSelection p n l).keyer = s.keyer ∧ (s.takeSelection p n l).chains = s.chains ∧ (s.takeSelection p n l).monitor = s.monitor ∧ (s.takeSelection p n l).port = s.port ∧ (s.takeSelection p n l).strobes = s.strobes ∧ (s.takeSelection p n l).pins = s.pins ∧ (s.takeSelection p n l).receivers = s.receivers ∧ (s.takeSelection p n l).lines = s.lines ∧ (s.takeSelection p n l).resetHeld = s.resetHeld ∧ (s.takeSelection p n l).freeCount = s.freeCount ∧ (s.takeSelection p n l).pending = s.pending := by
  unfold State.takeSelection; split <;> simp

/-- R61, R62: an evaluation of the selector. -/
@[simp] theorem State.evaluate_frame (k : SelCause) (l : Option Label) :
    (s.evaluate k l).time = s.time ∧ (s.evaluate k l).refs = s.refs ∧ (s.evaluate k l).counter = s.counter ∧ (s.evaluate k l).slots = s.slots ∧ (s.evaluate k l).nextRecord = s.nextRecord ∧ (s.evaluate k l).keyer = s.keyer ∧ (s.evaluate k l).chains = s.chains ∧ (s.evaluate k l).monitor = s.monitor ∧ (s.evaluate k l).port = s.port ∧ (s.evaluate k l).strobes = s.strobes ∧ (s.evaluate k l).pins = s.pins ∧ (s.evaluate k l).receivers = s.receivers ∧ (s.evaluate k l).lines = s.lines ∧ (s.evaluate k l).resetHeld = s.resetHeld ∧ (s.evaluate k l).freeCount = s.freeCount ∧ (s.evaluate k l).pending = s.pending := by
  unfold State.evaluate; dsimp only; split <;> simp

/-- R57: a change of reference state. -/
@[simp] theorem State.changeRef_frame (r : RefNo) (p : RefState) (x : Reference) (k : RefCause) (l : Option Label) :
    (s.changeRef r p x k l).time = s.time ∧ (s.changeRef r p x k l).counter = s.counter ∧ (s.changeRef r p x k l).slots = s.slots ∧ (s.changeRef r p x k l).nextRecord = s.nextRecord ∧ (s.changeRef r p x k l).keyer = s.keyer ∧ (s.changeRef r p x k l).chains = s.chains ∧ (s.changeRef r p x k l).monitor = s.monitor ∧ (s.changeRef r p x k l).port = s.port ∧ (s.changeRef r p x k l).strobes = s.strobes ∧ (s.changeRef r p x k l).pins = s.pins ∧ (s.changeRef r p x k l).receivers = s.receivers ∧ (s.changeRef r p x k l).lines = s.lines ∧ (s.changeRef r p x k l).resetHeld = s.resetHeld ∧ (s.changeRef r p x k l).freeCount = s.freeCount ∧ (s.changeRef r p x k l).pending = s.pending := by
  simp [State.changeRef]

/-- R48: the leap indicator check. -/
@[simp] theorem State.checkLeapMark_frame (r : RefNo) (st : RefState) (c : Capture) :
    (s.checkLeapMark r st c).time = s.time ∧ (s.checkLeapMark r st c).refs = s.refs ∧ (s.checkLeapMark r st c).selector = s.selector ∧ (s.checkLeapMark r st c).counter = s.counter ∧ (s.checkLeapMark r st c).disc = s.disc ∧ (s.checkLeapMark r st c).slots = s.slots ∧ (s.checkLeapMark r st c).nextRecord = s.nextRecord ∧ (s.checkLeapMark r st c).keyer = s.keyer ∧ (s.checkLeapMark r st c).chains = s.chains ∧ (s.checkLeapMark r st c).monitor = s.monitor ∧ (s.checkLeapMark r st c).port = s.port ∧ (s.checkLeapMark r st c).strobes = s.strobes ∧ (s.checkLeapMark r st c).pins = s.pins ∧ (s.checkLeapMark r st c).receivers = s.receivers ∧ (s.checkLeapMark r st c).lines = s.lines ∧ (s.checkLeapMark r st c).resetHeld = s.resetHeld ∧ (s.checkLeapMark r st c).freeCount = s.freeCount ∧ (s.checkLeapMark r st c).pending = s.pending := by
  unfold State.checkLeapMark; split <;> (try dsimp only) <;> (try split) <;> simp

/-- R69: a capture in FREE. -/
@[simp] theorem State.acquireFromFree_frame :
    s.acquireFromFree.time = s.time ∧ s.acquireFromFree.refs = s.refs ∧ s.acquireFromFree.selector = s.selector ∧ s.acquireFromFree.counter = s.counter ∧ s.acquireFromFree.slots = s.slots ∧ s.acquireFromFree.nextRecord = s.nextRecord ∧ s.acquireFromFree.keyer = s.keyer ∧ s.acquireFromFree.chains = s.chains ∧ s.acquireFromFree.monitor = s.monitor ∧ s.acquireFromFree.port = s.port ∧ s.acquireFromFree.strobes = s.strobes ∧ s.acquireFromFree.pins = s.pins ∧ s.acquireFromFree.receivers = s.receivers ∧ s.acquireFromFree.lines = s.lines ∧ s.acquireFromFree.resetHeld = s.resetHeld ∧ s.acquireFromFree.freeCount = s.freeCount ∧ s.acquireFromFree.pending = s.pending := by
  simp [State.acquireFromFree]

/-- R73: a first capture beyond S. -/
@[simp] theorem State.acquireAfresh_frame :
    s.acquireAfresh.time = s.time ∧ s.acquireAfresh.refs = s.refs ∧ s.acquireAfresh.selector = s.selector ∧ s.acquireAfresh.counter = s.counter ∧ s.acquireAfresh.slots = s.slots ∧ s.acquireAfresh.nextRecord = s.nextRecord ∧ s.acquireAfresh.keyer = s.keyer ∧ s.acquireAfresh.chains = s.chains ∧ s.acquireAfresh.monitor = s.monitor ∧ s.acquireAfresh.port = s.port ∧ s.acquireAfresh.strobes = s.strobes ∧ s.acquireAfresh.pins = s.pins ∧ s.acquireAfresh.receivers = s.receivers ∧ s.acquireAfresh.lines = s.lines ∧ s.acquireAfresh.resetHeld = s.resetHeld ∧ s.acquireAfresh.freeCount = s.freeCount ∧ s.acquireAfresh.pending = s.pending := by
  unfold State.acquireAfresh; dsimp only; split <;> simp

/-- R55, R71: the excursion rule's rejection. -/
@[simp] theorem State.rejectRef_frame (r : RefNo) :
    (s.rejectRef r).time = s.time ∧ (s.rejectRef r).counter = s.counter ∧ (s.rejectRef r).slots = s.slots ∧ (s.rejectRef r).nextRecord = s.nextRecord ∧ (s.rejectRef r).keyer = s.keyer ∧ (s.rejectRef r).chains = s.chains ∧ (s.rejectRef r).monitor = s.monitor ∧ (s.rejectRef r).port = s.port ∧ (s.rejectRef r).strobes = s.strobes ∧ (s.rejectRef r).pins = s.pins ∧ (s.rejectRef r).receivers = s.receivers ∧ (s.rejectRef r).lines = s.lines ∧ (s.rejectRef r).resetHeld = s.resetHeld ∧ (s.rejectRef r).freeCount = s.freeCount ∧ (s.rejectRef r).pending = s.pending := by
  simp [State.rejectRef]

/-- R76: a load request. -/
@[simp] theorem State.askLoad_frame (r : RefNo) (c : Capture) (m : Mask) :
    (s.askLoad r c m).refs = s.refs ∧ (s.askLoad r c m).selector = s.selector ∧ (s.askLoad r c m).counter = s.counter ∧ (s.askLoad r c m).disc = s.disc ∧ (s.askLoad r c m).slots = s.slots ∧ (s.askLoad r c m).nextRecord = s.nextRecord ∧ (s.askLoad r c m).keyer = s.keyer ∧ (s.askLoad r c m).chains = s.chains ∧ (s.askLoad r c m).monitor = s.monitor ∧ (s.askLoad r c m).port = s.port ∧ (s.askLoad r c m).notices = s.notices ∧ (s.askLoad r c m).strobes = s.strobes ∧ (s.askLoad r c m).pins = s.pins ∧ (s.askLoad r c m).receivers = s.receivers ∧ (s.askLoad r c m).lines = s.lines ∧ (s.askLoad r c m).resetHeld = s.resetHeld ∧ (s.askLoad r c m).freeCount = s.freeCount ∧ (s.askLoad r c m).pending = s.pending := by
  unfold State.askLoad; split <;> (try split) <;> simp

/-- R77: the lock check. -/
@[simp] theorem State.checkLock_frame :
    s.checkLock.time = s.time ∧ s.checkLock.refs = s.refs ∧ s.checkLock.selector = s.selector ∧ s.checkLock.counter = s.counter ∧ s.checkLock.slots = s.slots ∧ s.checkLock.nextRecord = s.nextRecord ∧ s.checkLock.keyer = s.keyer ∧ s.checkLock.chains = s.chains ∧ s.checkLock.monitor = s.monitor ∧ s.checkLock.port = s.port ∧ s.checkLock.strobes = s.strobes ∧ s.checkLock.pins = s.pins ∧ s.checkLock.receivers = s.receivers ∧ s.checkLock.lines = s.lines ∧ s.checkLock.resetHeld = s.resetHeld ∧ s.checkLock.freeCount = s.freeCount ∧ s.checkLock.pending = s.pending := by
  unfold State.checkLock; split <;> simp

/-- R78: the H1 check. -/
@[simp] theorem State.checkH1_frame (l : Option Label) :
    (s.checkH1 l).time = s.time ∧ (s.checkH1 l).refs = s.refs ∧ (s.checkH1 l).selector = s.selector ∧ (s.checkH1 l).counter = s.counter ∧ (s.checkH1 l).slots = s.slots ∧ (s.checkH1 l).nextRecord = s.nextRecord ∧ (s.checkH1 l).keyer = s.keyer ∧ (s.checkH1 l).chains = s.chains ∧ (s.checkH1 l).monitor = s.monitor ∧ (s.checkH1 l).port = s.port ∧ (s.checkH1 l).strobes = s.strobes ∧ (s.checkH1 l).pins = s.pins ∧ (s.checkH1 l).receivers = s.receivers ∧ (s.checkH1 l).lines = s.lines ∧ (s.checkH1 l).resetHeld = s.resetHeld ∧ (s.checkH1 l).freeCount = s.freeCount ∧ (s.checkH1 l).pending = s.pending := by
  unfold State.checkH1; split <;> simp

/-- R79: the H2 check. -/
@[simp] theorem State.checkH2_frame (l : Option Label) :
    (s.checkH2 l).time = s.time ∧ (s.checkH2 l).refs = s.refs ∧ (s.checkH2 l).selector = s.selector ∧ (s.checkH2 l).counter = s.counter ∧ (s.checkH2 l).slots = s.slots ∧ (s.checkH2 l).nextRecord = s.nextRecord ∧ (s.checkH2 l).keyer = s.keyer ∧ (s.checkH2 l).chains = s.chains ∧ (s.checkH2 l).monitor = s.monitor ∧ (s.checkH2 l).port = s.port ∧ (s.checkH2 l).strobes = s.strobes ∧ (s.checkH2 l).pins = s.pins ∧ (s.checkH2 l).receivers = s.receivers ∧ (s.checkH2 l).lines = s.lines ∧ (s.checkH2 l).resetHeld = s.resetHeld ∧ (s.checkH2 l).freeCount = s.freeCount ∧ (s.checkH2 l).pending = s.pending := by
  unfold State.checkH2; split <;> simp

/-- R78, R79: the holdover timers at an epoch. -/
@[simp] theorem State.holdoverTick_frame (e : Bool) (l : Option Label) :
    (s.holdoverTick e l).time = s.time ∧ (s.holdoverTick e l).refs = s.refs ∧ (s.holdoverTick e l).selector = s.selector ∧ (s.holdoverTick e l).counter = s.counter ∧ (s.holdoverTick e l).slots = s.slots ∧ (s.holdoverTick e l).nextRecord = s.nextRecord ∧ (s.holdoverTick e l).keyer = s.keyer ∧ (s.holdoverTick e l).chains = s.chains ∧ (s.holdoverTick e l).monitor = s.monitor ∧ (s.holdoverTick e l).port = s.port ∧ (s.holdoverTick e l).strobes = s.strobes ∧ (s.holdoverTick e l).pins = s.pins ∧ (s.holdoverTick e l).receivers = s.receivers ∧ (s.holdoverTick e l).lines = s.lines ∧ (s.holdoverTick e l).resetHeld = s.resetHeld ∧ (s.holdoverTick e l).freeCount = s.freeCount ∧ (s.holdoverTick e l).pending = s.pending := by
  unfold State.holdoverTick; split <;> simp

/-- R81: the range end. -/
@[simp] theorem State.rangeEndFree_frame (l : Option Label) :
    (s.rangeEndFree l).time = s.time ∧ (s.rangeEndFree l).refs = s.refs ∧ (s.rangeEndFree l).selector = s.selector ∧ (s.rangeEndFree l).counter = s.counter ∧ (s.rangeEndFree l).slots = s.slots ∧ (s.rangeEndFree l).nextRecord = s.nextRecord ∧ (s.rangeEndFree l).keyer = s.keyer ∧ (s.rangeEndFree l).chains = s.chains ∧ (s.rangeEndFree l).monitor = s.monitor ∧ (s.rangeEndFree l).port = s.port ∧ (s.rangeEndFree l).strobes = s.strobes ∧ (s.rangeEndFree l).pins = s.pins ∧ (s.rangeEndFree l).receivers = s.receivers ∧ (s.rangeEndFree l).lines = s.lines ∧ (s.rangeEndFree l).resetHeld = s.resetHeld ∧ (s.rangeEndFree l).freeCount = s.freeCount ∧ (s.rangeEndFree l).pending = s.pending := by
  unfold State.rangeEndFree; dsimp only; split <;> simp

/-- R85: a staged set comes into force. -/
@[simp] theorem State.discSettingsInForce_frame :
    s.discSettingsInForce.time = s.time ∧ s.discSettingsInForce.refs = s.refs ∧ s.discSettingsInForce.selector = s.selector ∧ s.discSettingsInForce.counter = s.counter ∧ s.discSettingsInForce.slots = s.slots ∧ s.discSettingsInForce.nextRecord = s.nextRecord ∧ s.discSettingsInForce.keyer = s.keyer ∧ s.discSettingsInForce.chains = s.chains ∧ s.discSettingsInForce.monitor = s.monitor ∧ s.discSettingsInForce.port = s.port ∧ s.discSettingsInForce.notices = s.notices ∧ s.discSettingsInForce.strobes = s.strobes ∧ s.discSettingsInForce.pins = s.pins ∧ s.discSettingsInForce.receivers = s.receivers ∧ s.discSettingsInForce.lines = s.lines ∧ s.discSettingsInForce.resetHeld = s.resetHeld ∧ s.discSettingsInForce.freeCount = s.freeCount ∧ s.discSettingsInForce.pending = s.pending := by
  unfold State.discSettingsInForce; split <;> simp

/-- R110: a slot's move. -/
@[simp] theorem State.moveSlot_frame (k : SlotNo) (n : SlotState) (l : Option Label) :
    (s.moveSlot k n l).time = s.time ∧ (s.moveSlot k n l).refs = s.refs ∧ (s.moveSlot k n l).selector = s.selector ∧ (s.moveSlot k n l).counter = s.counter ∧ (s.moveSlot k n l).disc = s.disc ∧ (s.moveSlot k n l).nextRecord = s.nextRecord ∧ (s.moveSlot k n l).keyer = s.keyer ∧ (s.moveSlot k n l).chains = s.chains ∧ (s.moveSlot k n l).monitor = s.monitor ∧ (s.moveSlot k n l).port = s.port ∧ (s.moveSlot k n l).strobes = s.strobes ∧ (s.moveSlot k n l).pins = s.pins ∧ (s.moveSlot k n l).receivers = s.receivers ∧ (s.moveSlot k n l).lines = s.lines ∧ (s.moveSlot k n l).resetHeld = s.resetHeld ∧ (s.moveSlot k n l).freeCount = s.freeCount ∧ (s.moveSlot k n l).pending = s.pending := by
  unfold State.moveSlot; split <;> (try dsimp only) <;> (try split) <;> simp

/-- a carried flag cleared. -/
@[simp] theorem State.uncarry_frame (k : SlotNo) :
    (s.uncarry k).time = s.time ∧ (s.uncarry k).refs = s.refs ∧ (s.uncarry k).selector = s.selector ∧ (s.uncarry k).counter = s.counter ∧ (s.uncarry k).disc = s.disc ∧ (s.uncarry k).nextRecord = s.nextRecord ∧ (s.uncarry k).keyer = s.keyer ∧ (s.uncarry k).chains = s.chains ∧ (s.uncarry k).monitor = s.monitor ∧ (s.uncarry k).port = s.port ∧ (s.uncarry k).notices = s.notices ∧ (s.uncarry k).strobes = s.strobes ∧ (s.uncarry k).pins = s.pins ∧ (s.uncarry k).receivers = s.receivers ∧ (s.uncarry k).lines = s.lines ∧ (s.uncarry k).resetHeld = s.resetHeld ∧ (s.uncarry k).freeCount = s.freeCount ∧ (s.uncarry k).pending = s.pending := by
  unfold State.uncarry; split <;> simp

/-- R98, R100, R101: a slot at a composition. -/
@[simp] theorem State.slotAtComposition_frame (k d : Nat) (l : Option Label) (n : SlotNo) :
    (State.slotAtComposition k d l s n).time = s.time ∧ (State.slotAtComposition k d l s n).refs = s.refs ∧ (State.slotAtComposition k d l s n).selector = s.selector ∧ (State.slotAtComposition k d l s n).counter = s.counter ∧ (State.slotAtComposition k d l s n).disc = s.disc ∧ (State.slotAtComposition k d l s n).nextRecord = s.nextRecord ∧ (State.slotAtComposition k d l s n).keyer = s.keyer ∧ (State.slotAtComposition k d l s n).chains = s.chains ∧ (State.slotAtComposition k d l s n).monitor = s.monitor ∧ (State.slotAtComposition k d l s n).port = s.port ∧ (State.slotAtComposition k d l s n).strobes = s.strobes ∧ (State.slotAtComposition k d l s n).pins = s.pins ∧ (State.slotAtComposition k d l s n).receivers = s.receivers ∧ (State.slotAtComposition k d l s n).lines = s.lines ∧ (State.slotAtComposition k d l s n).resetHeld = s.resetHeld ∧ (State.slotAtComposition k d l s n).freeCount = s.freeCount ∧ (State.slotAtComposition k d l s n).pending = s.pending := by
  unfold State.slotAtComposition; split <;> simp

/-- R102, R103: a slot at a boundary. -/
@[simp] theorem State.slotAtBoundary_frame (m : Nat) (l : Option Label) (n : SlotNo) :
    (State.slotAtBoundary m l s n).refs = s.refs ∧ (State.slotAtBoundary m l s n).selector = s.selector ∧ (State.slotAtBoundary m l s n).counter = s.counter ∧ (State.slotAtBoundary m l s n).disc = s.disc ∧ (State.slotAtBoundary m l s n).nextRecord = s.nextRecord ∧ (State.slotAtBoundary m l s n).keyer = s.keyer ∧ (State.slotAtBoundary m l s n).chains = s.chains ∧ (State.slotAtBoundary m l s n).monitor = s.monitor ∧ (State.slotAtBoundary m l s n).port = s.port ∧ (State.slotAtBoundary m l s n).strobes = s.strobes ∧ (State.slotAtBoundary m l s n).pins = s.pins ∧ (State.slotAtBoundary m l s n).receivers = s.receivers ∧ (State.slotAtBoundary m l s n).lines = s.lines ∧ (State.slotAtBoundary m l s n).resetHeld = s.resetHeld ∧ (State.slotAtBoundary m l s n).freeCount = s.freeCount ∧ (State.slotAtBoundary m l s n).pending = s.pending := by
  unfold State.slotAtBoundary; split <;> (try dsimp only) <;> (try split) <;> (try split) <;> simp

/-- R104, R105: an ending slot at a load. -/
@[simp] theorem State.endAtLoad_frame (n : Nat) (l : Option Label) (k : SlotNo) :
    (s.endAtLoad n l k).refs = s.refs ∧ (s.endAtLoad n l k).selector = s.selector ∧ (s.endAtLoad n l k).counter = s.counter ∧ (s.endAtLoad n l k).disc = s.disc ∧ (s.endAtLoad n l k).nextRecord = s.nextRecord ∧ (s.endAtLoad n l k).keyer = s.keyer ∧ (s.endAtLoad n l k).chains = s.chains ∧ (s.endAtLoad n l k).monitor = s.monitor ∧ (s.endAtLoad n l k).port = s.port ∧ (s.endAtLoad n l k).strobes = s.strobes ∧ (s.endAtLoad n l k).pins = s.pins ∧ (s.endAtLoad n l k).receivers = s.receivers ∧ (s.endAtLoad n l k).lines = s.lines ∧ (s.endAtLoad n l k).resetHeld = s.resetHeld ∧ (s.endAtLoad n l k).freeCount = s.freeCount ∧ (s.endAtLoad n l k).pending = s.pending := by
  unfold State.endAtLoad; split <;> (try dsimp only) <;> (try split) <;> simp

/-- one action of a performed load. -/
@[simp] theorem State.loadAction_frame (p : PendingLoad) (a : LoadAction) :
    (State.loadAction p s a).refs = s.refs ∧ (State.loadAction p s a).selector = s.selector ∧ (State.loadAction p s a).counter = s.counter ∧ (State.loadAction p s a).disc = s.disc ∧ (State.loadAction p s a).nextRecord = s.nextRecord ∧ (State.loadAction p s a).keyer = s.keyer ∧ (State.loadAction p s a).chains = s.chains ∧ (State.loadAction p s a).monitor = s.monitor ∧ (State.loadAction p s a).port = s.port ∧ (State.loadAction p s a).strobes = s.strobes ∧ (State.loadAction p s a).pins = s.pins ∧ (State.loadAction p s a).receivers = s.receivers ∧ (State.loadAction p s a).lines = s.lines ∧ (State.loadAction p s a).resetHeld = s.resetHeld ∧ (State.loadAction p s a).freeCount = s.freeCount ∧ (State.loadAction p s a).pending = s.pending := by
  cases a <;> simp [State.loadAction]

/-- R97: the table at a composition. -/
@[simp] theorem State.tableAtComposition_frame (k d : Nat) (l : Option Label) :
    (s.tableAtComposition k d l).time = s.time ∧ (s.tableAtComposition k d l).refs = s.refs ∧ (s.tableAtComposition k d l).selector = s.selector ∧ (s.tableAtComposition k d l).counter = s.counter ∧ (s.tableAtComposition k d l).disc = s.disc ∧ (s.tableAtComposition k d l).nextRecord = s.nextRecord ∧ (s.tableAtComposition k d l).keyer = s.keyer ∧ (s.tableAtComposition k d l).chains = s.chains ∧ (s.tableAtComposition k d l).monitor = s.monitor ∧ (s.tableAtComposition k d l).port = s.port ∧ (s.tableAtComposition k d l).strobes = s.strobes ∧ (s.tableAtComposition k d l).pins = s.pins ∧ (s.tableAtComposition k d l).receivers = s.receivers ∧ (s.tableAtComposition k d l).lines = s.lines ∧ (s.tableAtComposition k d l).resetHeld = s.resetHeld ∧ (s.tableAtComposition k d l).pending = s.pending := by
  refine ⟨foldl_keeps State.time _ (fun b a => by simp [State.slotAtComposition_frame]) _ _, foldl_keeps State.refs _ (fun b a => by simp [State.slotAtComposition_frame]) _ _, foldl_keeps State.selector _ (fun b a => by simp [State.slotAtComposition_frame]) _ _, foldl_keeps State.counter _ (fun b a => by simp [State.slotAtComposition_frame]) _ _, foldl_keeps State.disc _ (fun b a => by simp [State.slotAtComposition_frame]) _ _, foldl_keeps State.nextRecord _ (fun b a => by simp [State.slotAtComposition_frame]) _ _, foldl_keeps State.keyer _ (fun b a => by simp [State.slotAtComposition_frame]) _ _, foldl_keeps State.chains _ (fun b a => by simp [State.slotAtComposition_frame]) _ _, foldl_keeps State.monitor _ (fun b a => by simp [State.slotAtComposition_frame]) _ _, foldl_keeps State.port _ (fun b a => by simp [State.slotAtComposition_frame]) _ _, foldl_keeps State.strobes _ (fun b a => by simp [State.slotAtComposition_frame]) _ _, foldl_keeps State.pins _ (fun b a => by simp [State.slotAtComposition_frame]) _ _, foldl_keeps State.receivers _ (fun b a => by simp [State.slotAtComposition_frame]) _ _, foldl_keeps State.lines _ (fun b a => by simp [State.slotAtComposition_frame]) _ _, foldl_keeps State.resetHeld _ (fun b a => by simp [State.slotAtComposition_frame]) _ _, foldl_keeps State.pending _ (fun b a => by simp [State.slotAtComposition_frame]) _ _⟩

/-- R102, R103: the table at a boundary. -/
@[simp] theorem State.tableAtBoundary_frame (m : Nat) (l : Option Label) :
    (s.tableAtBoundary m l).refs = s.refs ∧ (s.tableAtBoundary m l).selector = s.selector ∧ (s.tableAtBoundary m l).counter = s.counter ∧ (s.tableAtBoundary m l).disc = s.disc ∧ (s.tableAtBoundary m l).nextRecord = s.nextRecord ∧ (s.tableAtBoundary m l).keyer = s.keyer ∧ (s.tableAtBoundary m l).chains = s.chains ∧ (s.tableAtBoundary m l).monitor = s.monitor ∧ (s.tableAtBoundary m l).port = s.port ∧ (s.tableAtBoundary m l).strobes = s.strobes ∧ (s.tableAtBoundary m l).pins = s.pins ∧ (s.tableAtBoundary m l).receivers = s.receivers ∧ (s.tableAtBoundary m l).lines = s.lines ∧ (s.tableAtBoundary m l).resetHeld = s.resetHeld ∧ (s.tableAtBoundary m l).pending = s.pending := by
  refine ⟨foldl_keeps State.refs _ (fun b a => by simp [State.slotAtBoundary_frame]) _ _, foldl_keeps State.selector _ (fun b a => by simp [State.slotAtBoundary_frame]) _ _, foldl_keeps State.counter _ (fun b a => by simp [State.slotAtBoundary_frame]) _ _, foldl_keeps State.disc _ (fun b a => by simp [State.slotAtBoundary_frame]) _ _, foldl_keeps State.nextRecord _ (fun b a => by simp [State.slotAtBoundary_frame]) _ _, foldl_keeps State.keyer _ (fun b a => by simp [State.slotAtBoundary_frame]) _ _, foldl_keeps State.chains _ (fun b a => by simp [State.slotAtBoundary_frame]) _ _, foldl_keeps State.monitor _ (fun b a => by simp [State.slotAtBoundary_frame]) _ _, foldl_keeps State.port _ (fun b a => by simp [State.slotAtBoundary_frame]) _ _, foldl_keeps State.strobes _ (fun b a => by simp [State.slotAtBoundary_frame]) _ _, foldl_keeps State.pins _ (fun b a => by simp [State.slotAtBoundary_frame]) _ _, foldl_keeps State.receivers _ (fun b a => by simp [State.slotAtBoundary_frame]) _ _, foldl_keeps State.lines _ (fun b a => by simp [State.slotAtBoundary_frame]) _ _, foldl_keeps State.resetHeld _ (fun b a => by simp [State.slotAtBoundary_frame]) _ _, foldl_keeps State.pending _ (fun b a => by simp [State.slotAtBoundary_frame]) _ _⟩

/-- R80: a load from HOST. -/
@[simp] theorem State.clearIfHost_frame (src : LoadSource) :
    (s.clearIfHost src).time = s.time ∧ (s.clearIfHost src).refs = s.refs ∧ (s.clearIfHost src).selector = s.selector ∧ (s.clearIfHost src).counter = s.counter ∧ (s.clearIfHost src).slots = s.slots ∧ (s.clearIfHost src).nextRecord = s.nextRecord ∧ (s.clearIfHost src).keyer = s.keyer ∧ (s.clearIfHost src).chains = s.chains ∧ (s.clearIfHost src).monitor = s.monitor ∧ (s.clearIfHost src).port = s.port ∧ (s.clearIfHost src).notices = s.notices ∧ (s.clearIfHost src).strobes = s.strobes ∧ (s.clearIfHost src).pins = s.pins ∧ (s.clearIfHost src).receivers = s.receivers ∧ (s.clearIfHost src).lines = s.lines ∧ (s.clearIfHost src).resetHeld = s.resetHeld ∧ (s.clearIfHost src).freeCount = s.freeCount ∧ (s.clearIfHost src).pending = s.pending := by
  cases src <;> simp [State.clearIfHost]

/-- R20, R22: the label's advance. -/
@[simp] theorem State.advanceLabel_frame :
    s.advanceLabel.refs = s.refs ∧ s.advanceLabel.selector = s.selector ∧ s.advanceLabel.counter = s.counter ∧ s.advanceLabel.disc = s.disc ∧ s.advanceLabel.slots = s.slots ∧ s.advanceLabel.nextRecord = s.nextRecord ∧ s.advanceLabel.keyer = s.keyer ∧ s.advanceLabel.chains = s.chains ∧ s.advanceLabel.monitor = s.monitor ∧ s.advanceLabel.port = s.port ∧ s.advanceLabel.strobes = s.strobes ∧ s.advanceLabel.pins = s.pins ∧ s.advanceLabel.receivers = s.receivers ∧ s.advanceLabel.lines = s.lines ∧ s.advanceLabel.resetHeld = s.resetHeld ∧ s.advanceLabel.freeCount = s.freeCount ∧ s.advanceLabel.pending = s.pending := by
  unfold State.advanceLabel; split <;> (try split) <;> simp

/-- R34: a performed load. -/
@[simp] theorem State.performLoad_frame (p : PendingLoad) :
    (s.performLoad p).refs = s.refs ∧ (s.performLoad p).selector = s.selector ∧ (s.performLoad p).counter = s.counter ∧ (s.performLoad p).keyer = s.keyer ∧ (s.performLoad p).chains = s.chains ∧ (s.performLoad p).monitor = s.monitor ∧ (s.performLoad p).port = s.port ∧ (s.performLoad p).strobes = s.strobes ∧ (s.performLoad p).pins = s.pins ∧ (s.performLoad p).receivers = s.receivers ∧ (s.performLoad p).lines = s.lines ∧ (s.performLoad p).resetHeld = s.resetHeld ∧ (s.performLoad p).pending = s.pending := by
  simp only [State.performLoad, State.clearIfHost_frame]
  refine ⟨foldl_keeps State.refs _ (fun b a => by simp [State.loadAction_frame]) _ _, foldl_keeps State.selector _ (fun b a => by simp [State.loadAction_frame]) _ _, foldl_keeps State.counter _ (fun b a => by simp [State.loadAction_frame]) _ _, foldl_keeps State.keyer _ (fun b a => by simp [State.loadAction_frame]) _ _, foldl_keeps State.chains _ (fun b a => by simp [State.loadAction_frame]) _ _, foldl_keeps State.monitor _ (fun b a => by simp [State.loadAction_frame]) _ _, foldl_keeps State.port _ (fun b a => by simp [State.loadAction_frame]) _ _, foldl_keeps State.strobes _ (fun b a => by simp [State.loadAction_frame]) _ _, foldl_keeps State.pins _ (fun b a => by simp [State.loadAction_frame]) _ _, foldl_keeps State.receivers _ (fun b a => by simp [State.loadAction_frame]) _ _, foldl_keeps State.lines _ (fun b a => by simp [State.loadAction_frame]) _ _, foldl_keeps State.resetHeld _ (fun b a => by simp [State.loadAction_frame]) _ _, foldl_keeps State.pending _ (fun b a => by simp [State.loadAction_frame]) _ _⟩

/-- R123: a record placed in NEXT. -/
@[simp] theorem State.place_frame (r : Record) :
    (s.place r).time = s.time ∧ (s.place r).refs = s.refs ∧ (s.place r).selector = s.selector ∧ (s.place r).counter = s.counter ∧ (s.place r).disc = s.disc ∧ (s.place r).slots = s.slots ∧ (s.place r).keyer = s.keyer ∧ (s.place r).chains = s.chains ∧ (s.place r).monitor = s.monitor ∧ (s.place r).port = s.port ∧ (s.place r).strobes = s.strobes ∧ (s.place r).pins = s.pins ∧ (s.place r).receivers = s.receivers ∧ (s.place r).lines = s.lines ∧ (s.place r).resetHeld = s.resetHeld ∧ (s.place r).freeCount = s.freeCount ∧ (s.place r).pending = s.pending := by
  unfold State.place; split <;> simp

/-- R113: a composition. -/
@[simp] theorem State.compose_frame (l : Label) (q : Nat) :
    (s.compose l q).time = s.time ∧ (s.compose l q).refs = s.refs ∧ (s.compose l q).selector = s.selector ∧ (s.compose l q).counter = s.counter ∧ (s.compose l q).disc = s.disc ∧ (s.compose l q).keyer = s.keyer ∧ (s.compose l q).chains = s.chains ∧ (s.compose l q).monitor = s.monitor ∧ (s.compose l q).port = s.port ∧ (s.compose l q).strobes = s.strobes ∧ (s.compose l q).pins = s.pins ∧ (s.compose l q).receivers = s.receivers ∧ (s.compose l q).lines = s.lines ∧ (s.compose l q).resetHeld = s.resetHeld ∧ (s.compose l q).pending = s.pending := by
  simp [State.compose]

/-- R112: the composer at an epoch. -/
@[simp] theorem State.composition_frame (l : Option Label) :
    (s.composition l).time = s.time ∧ (s.composition l).refs = s.refs ∧ (s.composition l).selector = s.selector ∧ (s.composition l).counter = s.counter ∧ (s.composition l).disc = s.disc ∧ (s.composition l).keyer = s.keyer ∧ (s.composition l).chains = s.chains ∧ (s.composition l).monitor = s.monitor ∧ (s.composition l).port = s.port ∧ (s.composition l).strobes = s.strobes ∧ (s.composition l).pins = s.pins ∧ (s.composition l).receivers = s.receivers ∧ (s.composition l).lines = s.lines ∧ (s.composition l).resetHeld = s.resetHeld ∧ (s.composition l).pending = s.pending := by
  unfold State.composition; split <;> (try split) <;> simp

/-- R151: a maintenance change comes into force. -/
@[simp] theorem State.maintenanceInForce_frame (l : Option Label) :
    (s.maintenanceInForce l).time = s.time ∧ (s.maintenanceInForce l).refs = s.refs ∧ (s.maintenanceInForce l).selector = s.selector ∧ (s.maintenanceInForce l).counter = s.counter ∧ (s.maintenanceInForce l).disc = s.disc ∧ (s.maintenanceInForce l).slots = s.slots ∧ (s.maintenanceInForce l).nextRecord = s.nextRecord ∧ (s.maintenanceInForce l).keyer = s.keyer ∧ (s.maintenanceInForce l).monitor = s.monitor ∧ (s.maintenanceInForce l).port = s.port ∧ (s.maintenanceInForce l).notices = s.notices ∧ (s.maintenanceInForce l).strobes = s.strobes ∧ (s.maintenanceInForce l).pins = s.pins ∧ (s.maintenanceInForce l).receivers = s.receivers ∧ (s.maintenanceInForce l).lines = s.lines ∧ (s.maintenanceInForce l).resetHeld = s.resetHeld ∧ (s.maintenanceInForce l).freeCount = s.freeCount ∧ (s.maintenanceInForce l).pending = s.pending := by
  unfold State.maintenanceInForce; split <;> (try split) <;> simp

/-- R161: a cancellation. -/
@[simp] theorem State.cancelFor_frame (c : Chain) (l : Level) :
    (s.cancelFor c l).time = s.time ∧ (s.cancelFor c l).refs = s.refs ∧ (s.cancelFor c l).selector = s.selector ∧ (s.cancelFor c l).counter = s.counter ∧ (s.cancelFor c l).disc = s.disc ∧ (s.cancelFor c l).slots = s.slots ∧ (s.cancelFor c l).nextRecord = s.nextRecord ∧ (s.cancelFor c l).keyer = s.keyer ∧ (s.cancelFor c l).monitor = s.monitor ∧ (s.cancelFor c l).port = s.port ∧ (s.cancelFor c l).strobes = s.strobes ∧ (s.cancelFor c l).pins = s.pins ∧ (s.cancelFor c l).receivers = s.receivers ∧ (s.cancelFor c l).lines = s.lines ∧ (s.cancelFor c l).resetHeld = s.resetHeld ∧ (s.cancelFor c l).freeCount = s.freeCount ∧ (s.cancelFor c l).pending = s.pending := by
  unfold State.cancelFor; split <;> (try split) <;> simp

/-- R161: a change of a ready level. -/
@[simp] theorem State.readyChange_frame (c : Chain) (l : Level) :
    (s.readyChange c l).time = s.time ∧ (s.readyChange c l).refs = s.refs ∧ (s.readyChange c l).selector = s.selector ∧ (s.readyChange c l).counter = s.counter ∧ (s.readyChange c l).disc = s.disc ∧ (s.readyChange c l).slots = s.slots ∧ (s.readyChange c l).nextRecord = s.nextRecord ∧ (s.readyChange c l).keyer = s.keyer ∧ (s.readyChange c l).monitor = s.monitor ∧ (s.readyChange c l).port = s.port ∧ (s.readyChange c l).strobes = s.strobes ∧ (s.readyChange c l).pins = s.pins ∧ (s.readyChange c l).receivers = s.receivers ∧ (s.readyChange c l).lines = s.lines ∧ (s.readyChange c l).resetHeld = s.resetHeld ∧ (s.readyChange c l).freeCount = s.freeCount ∧ (s.readyChange c l).pending = s.pending := by
  simp [State.readyChange]

/-- R163: the decision of a changeover. -/
@[simp] theorem State.decideChangeover_frame (l : Option Label) :
    (s.decideChangeover l).time = s.time ∧ (s.decideChangeover l).refs = s.refs ∧ (s.decideChangeover l).selector = s.selector ∧ (s.decideChangeover l).counter = s.counter ∧ (s.decideChangeover l).disc = s.disc ∧ (s.decideChangeover l).slots = s.slots ∧ (s.decideChangeover l).nextRecord = s.nextRecord ∧ (s.decideChangeover l).keyer = s.keyer ∧ (s.decideChangeover l).monitor = s.monitor ∧ (s.decideChangeover l).port = s.port ∧ (s.decideChangeover l).strobes = s.strobes ∧ (s.decideChangeover l).pins = s.pins ∧ (s.decideChangeover l).receivers = s.receivers ∧ (s.decideChangeover l).lines = s.lines ∧ (s.decideChangeover l).resetHeld = s.resetHeld ∧ (s.decideChangeover l).freeCount = s.freeCount ∧ (s.decideChangeover l).pending = s.pending := by
  unfold State.decideChangeover; split <;> (try split) <;> simp

/-- R164: the automatic rule. -/
@[simp] theorem State.automaticRule_frame (v : Verdict) (l : Option Label) :
    (s.automaticRule v l).time = s.time ∧ (s.automaticRule v l).refs = s.refs ∧ (s.automaticRule v l).selector = s.selector ∧ (s.automaticRule v l).counter = s.counter ∧ (s.automaticRule v l).disc = s.disc ∧ (s.automaticRule v l).slots = s.slots ∧ (s.automaticRule v l).nextRecord = s.nextRecord ∧ (s.automaticRule v l).keyer = s.keyer ∧ (s.automaticRule v l).monitor = s.monitor ∧ (s.automaticRule v l).port = s.port ∧ (s.automaticRule v l).strobes = s.strobes ∧ (s.automaticRule v l).pins = s.pins ∧ (s.automaticRule v l).receivers = s.receivers ∧ (s.automaticRule v l).lines = s.lines ∧ (s.automaticRule v l).resetHeld = s.resetHeld ∧ (s.automaticRule v l).freeCount = s.freeCount ∧ (s.automaticRule v l).pending = s.pending := by
  unfold State.automaticRule; dsimp only; split <;> (try split) <;> simp

/-- R163 to R166: the changeover block at a boundary. -/
@[simp] theorem State.changeoverBoundary_frame (v : Option Verdict) (l : Option Label) :
    (s.changeoverBoundary v l).time = s.time ∧ (s.changeoverBoundary v l).refs = s.refs ∧ (s.changeoverBoundary v l).selector = s.selector ∧ (s.changeoverBoundary v l).counter = s.counter ∧ (s.changeoverBoundary v l).disc = s.disc ∧ (s.changeoverBoundary v l).slots = s.slots ∧ (s.changeoverBoundary v l).nextRecord = s.nextRecord ∧ (s.changeoverBoundary v l).keyer = s.keyer ∧ (s.changeoverBoundary v l).monitor = s.monitor ∧ (s.changeoverBoundary v l).port = s.port ∧ (s.changeoverBoundary v l).strobes = s.strobes ∧ (s.changeoverBoundary v l).pins = s.pins ∧ (s.changeoverBoundary v l).receivers = s.receivers ∧ (s.changeoverBoundary v l).lines = s.lines ∧ (s.changeoverBoundary v l).resetHeld = s.resetHeld ∧ (s.changeoverBoundary v l).freeCount = s.freeCount ∧ (s.changeoverBoundary v l).pending = s.pending := by
  cases v <;> simp [State.changeoverBoundary]

/-- R154: a fall. -/
@[simp] theorem State.monitorFall_frame :
    s.monitorFall.time = s.time ∧ s.monitorFall.refs = s.refs ∧ s.monitorFall.selector = s.selector ∧ s.monitorFall.counter = s.counter ∧ s.monitorFall.disc = s.disc ∧ s.monitorFall.slots = s.slots ∧ s.monitorFall.nextRecord = s.nextRecord ∧ s.monitorFall.keyer = s.keyer ∧ s.monitorFall.chains = s.chains ∧ s.monitorFall.port = s.port ∧ s.monitorFall.notices = s.notices ∧ s.monitorFall.strobes = s.strobes ∧ s.monitorFall.pins = s.pins ∧ s.monitorFall.receivers = s.receivers ∧ s.monitorFall.lines = s.lines ∧ s.monitorFall.resetHeld = s.resetHeld ∧ s.monitorFall.freeCount = s.freeCount ∧ s.monitorFall.pending = s.pending := by
  unfold State.monitorFall; split <;> simp

/-- R154, R155: a rise. -/
@[simp] theorem State.monitorRise_frame :
    s.monitorRise.time = s.time ∧ s.monitorRise.refs = s.refs ∧ s.monitorRise.selector = s.selector ∧ s.monitorRise.counter = s.counter ∧ s.monitorRise.disc = s.disc ∧ s.monitorRise.slots = s.slots ∧ s.monitorRise.nextRecord = s.nextRecord ∧ s.monitorRise.keyer = s.keyer ∧ s.monitorRise.chains = s.chains ∧ s.monitorRise.port = s.port ∧ s.monitorRise.notices = s.notices ∧ s.monitorRise.strobes = s.strobes ∧ s.monitorRise.pins = s.pins ∧ s.monitorRise.receivers = s.receivers ∧ s.monitorRise.lines = s.lines ∧ s.monitorRise.resetHeld = s.resetHeld ∧ s.monitorRise.freeCount = s.freeCount ∧ s.monitorRise.pending = s.pending := by
  unfold State.monitorRise; split <;> (try dsimp only) <;> (try split) <;> simp

/-- R154: a transition of source LOOP. -/
@[simp] theorem State.loopTransition_frame (b : Bool) :
    (s.loopTransition b).time = s.time ∧ (s.loopTransition b).refs = s.refs ∧ (s.loopTransition b).selector = s.selector ∧ (s.loopTransition b).counter = s.counter ∧ (s.loopTransition b).disc = s.disc ∧ (s.loopTransition b).slots = s.slots ∧ (s.loopTransition b).nextRecord = s.nextRecord ∧ (s.loopTransition b).keyer = s.keyer ∧ (s.loopTransition b).chains = s.chains ∧ (s.loopTransition b).port = s.port ∧ (s.loopTransition b).notices = s.notices ∧ (s.loopTransition b).strobes = s.strobes ∧ (s.loopTransition b).pins = s.pins ∧ (s.loopTransition b).receivers = s.receivers ∧ (s.loopTransition b).lines = s.lines ∧ (s.loopTransition b).resetHeld = s.resetHeld ∧ (s.loopTransition b).freeCount = s.freeCount ∧ (s.loopTransition b).pending = s.pending := by
  unfold State.loopTransition; split <;> (try split) <;> (try split) <;> simp

/-- R159: MON_VERDICT. -/
@[simp] theorem State.postVerdict_frame (r : MonRecord) (l : Option Label) :
    (s.postVerdict r l).time = s.time ∧ (s.postVerdict r l).refs = s.refs ∧ (s.postVerdict r l).selector = s.selector ∧ (s.postVerdict r l).counter = s.counter ∧ (s.postVerdict r l).disc = s.disc ∧ (s.postVerdict r l).slots = s.slots ∧ (s.postVerdict r l).nextRecord = s.nextRecord ∧ (s.postVerdict r l).keyer = s.keyer ∧ (s.postVerdict r l).chains = s.chains ∧ (s.postVerdict r l).monitor = s.monitor ∧ (s.postVerdict r l).port = s.port ∧ (s.postVerdict r l).strobes = s.strobes ∧ (s.postVerdict r l).pins = s.pins ∧ (s.postVerdict r l).receivers = s.receivers ∧ (s.postVerdict r l).lines = s.lines ∧ (s.postVerdict r l).resetHeld = s.resetHeld ∧ (s.postVerdict r l).freeCount = s.freeCount ∧ (s.postVerdict r l).pending = s.pending := by
  unfold State.postVerdict; split <;> simp

/-- R157, R159: the verdict. -/
@[simp] theorem State.judge_frame (l : Option Label) :
    (s.judge l).time = s.time ∧ (s.judge l).refs = s.refs ∧ (s.judge l).selector = s.selector ∧ (s.judge l).counter = s.counter ∧ (s.judge l).disc = s.disc ∧ (s.judge l).slots = s.slots ∧ (s.judge l).nextRecord = s.nextRecord ∧ (s.judge l).keyer = s.keyer ∧ (s.judge l).port = s.port ∧ (s.judge l).strobes = s.strobes ∧ (s.judge l).pins = s.pins ∧ (s.judge l).receivers = s.receivers ∧ (s.judge l).lines = s.lines ∧ (s.judge l).resetHeld = s.resetHeld ∧ (s.judge l).freeCount = s.freeCount ∧ (s.judge l).pending = s.pending := by
  unfold State.judge; split <;> simp

/-- the monitor at an epoch. -/
@[simp] theorem State.monitorEpoch_frame (c : EpochCtx) :
    (s.monitorEpoch c).time = s.time ∧ (s.monitorEpoch c).refs = s.refs ∧ (s.monitorEpoch c).selector = s.selector ∧ (s.monitorEpoch c).counter = s.counter ∧ (s.monitorEpoch c).disc = s.disc ∧ (s.monitorEpoch c).slots = s.slots ∧ (s.monitorEpoch c).nextRecord = s.nextRecord ∧ (s.monitorEpoch c).keyer = s.keyer ∧ (s.monitorEpoch c).port = s.port ∧ (s.monitorEpoch c).strobes = s.strobes ∧ (s.monitorEpoch c).pins = s.pins ∧ (s.monitorEpoch c).receivers = s.receivers ∧ (s.monitorEpoch c).lines = s.lines ∧ (s.monitorEpoch c).resetHeld = s.resetHeld ∧ (s.monitorEpoch c).freeCount = s.freeCount ∧ (s.monitorEpoch c).pending = s.pending := by
  unfold State.monitorEpoch; dsimp only; split <;> (try split) <;> (try split) <;> simp

/-- R138: a change of keying mode. -/
@[simp] theorem State.setMode_frame (m : KeyMode) (k : KeyCause) (l : Option Label) :
    (s.setMode m k l).time = s.time ∧ (s.setMode m k l).refs = s.refs ∧ (s.setMode m k l).selector = s.selector ∧ (s.setMode m k l).counter = s.counter ∧ (s.setMode m k l).disc = s.disc ∧ (s.setMode m k l).slots = s.slots ∧ (s.setMode m k l).nextRecord = s.nextRecord ∧ (s.setMode m k l).chains = s.chains ∧ (s.setMode m k l).monitor = s.monitor ∧ (s.setMode m k l).port = s.port ∧ (s.setMode m k l).strobes = s.strobes ∧ (s.setMode m k l).pins = s.pins ∧ (s.setMode m k l).receivers = s.receivers ∧ (s.setMode m k l).lines = s.lines ∧ (s.setMode m k l).resetHeld = s.resetHeld ∧ (s.setMode m k l).freeCount = s.freeCount ∧ (s.setMode m k l).pending = s.pending := by
  unfold State.setMode; split <;> simp

/-- R136: the keyer's test. -/
@[simp] theorem State.testMode_frame (l : Option Label) :
    (s.testMode l).time = s.time ∧ (s.testMode l).refs = s.refs ∧ (s.testMode l).selector = s.selector ∧ (s.testMode l).counter = s.counter ∧ (s.testMode l).disc = s.disc ∧ (s.testMode l).slots = s.slots ∧ (s.testMode l).nextRecord = s.nextRecord ∧ (s.testMode l).chains = s.chains ∧ (s.testMode l).monitor = s.monitor ∧ (s.testMode l).port = s.port ∧ (s.testMode l).strobes = s.strobes ∧ (s.testMode l).pins = s.pins ∧ (s.testMode l).receivers = s.receivers ∧ (s.testMode l).lines = s.lines ∧ (s.testMode l).resetHeld = s.resetHeld ∧ (s.testMode l).freeCount = s.freeCount ∧ (s.testMode l).pending = s.pending := by
  unfold State.testMode; split <;> simp

/-- R133: the test of AIR. -/
@[simp] theorem State.testAir_frame (m : Nat) (l : Option Label) :
    (s.testAir m l).time = s.time ∧ (s.testAir m l).refs = s.refs ∧ (s.testAir m l).selector = s.selector ∧ (s.testAir m l).counter = s.counter ∧ (s.testAir m l).disc = s.disc ∧ (s.testAir m l).slots = s.slots ∧ (s.testAir m l).nextRecord = s.nextRecord ∧ (s.testAir m l).chains = s.chains ∧ (s.testAir m l).monitor = s.monitor ∧ (s.testAir m l).port = s.port ∧ (s.testAir m l).strobes = s.strobes ∧ (s.testAir m l).pins = s.pins ∧ (s.testAir m l).receivers = s.receivers ∧ (s.testAir m l).lines = s.lines ∧ (s.testAir m l).resetHeld = s.resetHeld ∧ (s.testAir m l).freeCount = s.freeCount ∧ (s.testAir m l).pending = s.pending := by
  unfold State.testAir; split <;> (try split) <;> (try dsimp only) <;> (try split) <;> simp

/-- R131: the taking of the record. -/
@[simp] theorem State.takeRecord_frame (m : Nat) (l : Option Label) :
    (s.takeRecord m l).time = s.time ∧ (s.takeRecord m l).refs = s.refs ∧ (s.takeRecord m l).selector = s.selector ∧ (s.takeRecord m l).counter = s.counter ∧ (s.takeRecord m l).disc = s.disc ∧ (s.takeRecord m l).slots = s.slots ∧ (s.takeRecord m l).chains = s.chains ∧ (s.takeRecord m l).monitor = s.monitor ∧ (s.takeRecord m l).port = s.port ∧ (s.takeRecord m l).strobes = s.strobes ∧ (s.takeRecord m l).pins = s.pins ∧ (s.takeRecord m l).receivers = s.receivers ∧ (s.takeRecord m l).lines = s.lines ∧ (s.takeRecord m l).resetHeld = s.resetHeld ∧ (s.takeRecord m l).freeCount = s.freeCount ∧ (s.takeRecord m l).pending = s.pending := by
  unfold State.takeRecord; dsimp only; split <;> (try split) <;> simp

/-- R143: a staged envelope becomes active. -/
@[simp] theorem State.envelopeInForce_frame :
    s.envelopeInForce.time = s.time ∧ s.envelopeInForce.refs = s.refs ∧ s.envelopeInForce.selector = s.selector ∧ s.envelopeInForce.counter = s.counter ∧ s.envelopeInForce.disc = s.disc ∧ s.envelopeInForce.slots = s.slots ∧ s.envelopeInForce.nextRecord = s.nextRecord ∧ s.envelopeInForce.chains = s.chains ∧ s.envelopeInForce.monitor = s.monitor ∧ s.envelopeInForce.port = s.port ∧ s.envelopeInForce.notices = s.notices ∧ s.envelopeInForce.strobes = s.strobes ∧ s.envelopeInForce.pins = s.pins ∧ s.envelopeInForce.receivers = s.receivers ∧ s.envelopeInForce.lines = s.lines ∧ s.envelopeInForce.resetHeld = s.resetHeld ∧ s.envelopeInForce.freeCount = s.freeCount ∧ s.envelopeInForce.pending = s.pending := by
  unfold State.envelopeInForce; split <;> simp

/-- the keyer at a boundary. -/
@[simp] theorem State.keyerBoundary_frame (m : Nat) (l : Option Label) :
    (s.keyerBoundary m l).time = s.time ∧ (s.keyerBoundary m l).refs = s.refs ∧ (s.keyerBoundary m l).selector = s.selector ∧ (s.keyerBoundary m l).counter = s.counter ∧ (s.keyerBoundary m l).disc = s.disc ∧ (s.keyerBoundary m l).slots = s.slots ∧ (s.keyerBoundary m l).chains = s.chains ∧ (s.keyerBoundary m l).monitor = s.monitor ∧ (s.keyerBoundary m l).port = s.port ∧ (s.keyerBoundary m l).strobes = s.strobes ∧ (s.keyerBoundary m l).pins = s.pins ∧ (s.keyerBoundary m l).receivers = s.receivers ∧ (s.keyerBoundary m l).lines = s.lines ∧ (s.keyerBoundary m l).resetHeld = s.resetHeld ∧ (s.keyerBoundary m l).freeCount = s.freeCount ∧ (s.keyerBoundary m l).pending = s.pending := by
  simp [State.keyerBoundary]

/-- the keyer at any other epoch. -/
@[simp] theorem State.keyerOther_frame (c : EpochCtx) :
    (s.keyerOther c).time = s.time ∧ (s.keyerOther c).refs = s.refs ∧ (s.keyerOther c).selector = s.selector ∧ (s.keyerOther c).counter = s.counter ∧ (s.keyerOther c).disc = s.disc ∧ (s.keyerOther c).slots = s.slots ∧ (s.keyerOther c).nextRecord = s.nextRecord ∧ (s.keyerOther c).chains = s.chains ∧ (s.keyerOther c).monitor = s.monitor ∧ (s.keyerOther c).port = s.port ∧ (s.keyerOther c).strobes = s.strobes ∧ (s.keyerOther c).pins = s.pins ∧ (s.keyerOther c).receivers = s.receivers ∧ (s.keyerOther c).lines = s.lines ∧ (s.keyerOther c).resetHeld = s.resetHeld ∧ (s.keyerOther c).freeCount = s.freeCount ∧ (s.keyerOther c).pending = s.pending := by
  unfold State.keyerOther; split <;> (try split) <;> simp

/-- the keyer at an epoch. -/
@[simp] theorem State.keyerEpoch_frame (c : EpochCtx) :
    (s.keyerEpoch c).time = s.time ∧ (s.keyerEpoch c).refs = s.refs ∧ (s.keyerEpoch c).selector = s.selector ∧ (s.keyerEpoch c).counter = s.counter ∧ (s.keyerEpoch c).disc = s.disc ∧ (s.keyerEpoch c).slots = s.slots ∧ (s.keyerEpoch c).chains = s.chains ∧ (s.keyerEpoch c).port = s.port ∧ (s.keyerEpoch c).strobes = s.strobes ∧ (s.keyerEpoch c).pins = s.pins ∧ (s.keyerEpoch c).receivers = s.receivers ∧ (s.keyerEpoch c).lines = s.lines ∧ (s.keyerEpoch c).resetHeld = s.resetHeld ∧ (s.keyerEpoch c).freeCount = s.freeCount ∧ (s.keyerEpoch c).pending = s.pending := by
  unfold State.keyerEpoch; split <;> (try split) <;> simp

/-- R144: a phase of the shaper. -/
@[simp] theorem State.enterPhase_frame (p : EnvPhase) :
    (s.enterPhase p).time = s.time ∧ (s.enterPhase p).refs = s.refs ∧ (s.enterPhase p).selector = s.selector ∧ (s.enterPhase p).counter = s.counter ∧ (s.enterPhase p).disc = s.disc ∧ (s.enterPhase p).slots = s.slots ∧ (s.enterPhase p).nextRecord = s.nextRecord ∧ (s.enterPhase p).chains = s.chains ∧ (s.enterPhase p).port = s.port ∧ (s.enterPhase p).notices = s.notices ∧ (s.enterPhase p).pins = s.pins ∧ (s.enterPhase p).receivers = s.receivers ∧ (s.enterPhase p).lines = s.lines ∧ (s.enterPhase p).resetHeld = s.resetHeld ∧ (s.enterPhase p).freeCount = s.freeCount ∧ (s.enterPhase p).pending = s.pending := by
  simp [State.enterPhase]

/-- R144: a segment point. -/
@[simp] theorem State.segmentPoint_frame :
    s.segmentPoint.time = s.time ∧ s.segmentPoint.refs = s.refs ∧ s.segmentPoint.selector = s.selector ∧ s.segmentPoint.disc = s.disc ∧ s.segmentPoint.slots = s.slots ∧ s.segmentPoint.nextRecord = s.nextRecord ∧ s.segmentPoint.chains = s.chains ∧ s.segmentPoint.port = s.port ∧ s.segmentPoint.notices = s.notices ∧ s.segmentPoint.pins = s.pins ∧ s.segmentPoint.receivers = s.receivers ∧ s.segmentPoint.lines = s.lines ∧ s.segmentPoint.resetHeld = s.resetHeld ∧ s.segmentPoint.freeCount = s.freeCount ∧ s.segmentPoint.pending = s.pending := by
  unfold State.segmentPoint; split <;> simp

/-- R50: a review. -/
@[simp] theorem State.review_frame (r : RefNo) (st : Bool) (w : Nat) (a : Int) (l : Option Label) :
    (s.review r st w a l).time = s.time ∧ (s.review r st w a l).counter = s.counter ∧ (s.review r st w a l).slots = s.slots ∧ (s.review r st w a l).nextRecord = s.nextRecord ∧ (s.review r st w a l).keyer = s.keyer ∧ (s.review r st w a l).chains = s.chains ∧ (s.review r st w a l).monitor = s.monitor ∧ (s.review r st w a l).port = s.port ∧ (s.review r st w a l).strobes = s.strobes ∧ (s.review r st w a l).pins = s.pins ∧ (s.review r st w a l).receivers = s.receivers ∧ (s.review r st w a l).lines = s.lines ∧ (s.review r st w a l).resetHeld = s.resetHeld ∧ (s.review r st w a l).freeCount = s.freeCount ∧ (s.review r st w a l).pending = s.pending := by
  unfold State.review; dsimp only; split <;> (try split) <;> (try split) <;> (try split) <;> simp

/-- R56: an enable or a disable. -/
@[simp] theorem State.setEnable_frame (r : RefNo) (b : Bool) :
    (s.setEnable r b).time = s.time ∧ (s.setEnable r b).counter = s.counter ∧ (s.setEnable r b).slots = s.slots ∧ (s.setEnable r b).nextRecord = s.nextRecord ∧ (s.setEnable r b).keyer = s.keyer ∧ (s.setEnable r b).chains = s.chains ∧ (s.setEnable r b).monitor = s.monitor ∧ (s.setEnable r b).port = s.port ∧ (s.setEnable r b).strobes = s.strobes ∧ (s.setEnable r b).pins = s.pins ∧ (s.setEnable r b).receivers = s.receivers ∧ (s.setEnable r b).lines = s.lines ∧ (s.setEnable r b).resetHeld = s.resetHeld ∧ (s.setEnable r b).freeCount = s.freeCount ∧ (s.setEnable r b).pending = s.pending := by
  unfold State.setEnable; dsimp only; split <;> split <;> simp

/-- the table at an epoch. -/
@[simp] theorem State.tableEpoch_frame (l : Option Label) :
    (s.tableEpoch l).refs = s.refs ∧ (s.tableEpoch l).selector = s.selector ∧ (s.tableEpoch l).counter = s.counter ∧ (s.tableEpoch l).disc = s.disc ∧ (s.tableEpoch l).nextRecord = s.nextRecord ∧ (s.tableEpoch l).keyer = s.keyer ∧ (s.tableEpoch l).chains = s.chains ∧ (s.tableEpoch l).monitor = s.monitor ∧ (s.tableEpoch l).port = s.port ∧ (s.tableEpoch l).strobes = s.strobes ∧ (s.tableEpoch l).pins = s.pins ∧ (s.tableEpoch l).receivers = s.receivers ∧ (s.tableEpoch l).lines = s.lines ∧ (s.tableEpoch l).resetHeld = s.resetHeld ∧ (s.tableEpoch l).pending = s.pending := by
  unfold State.tableEpoch; split <;> (try split) <;> simp

/-- R65: a correction. -/
@[simp] theorem State.corrected_frame (c : Int) :
    (s.corrected c).state.slots = s.slots ∧ (s.corrected c).state.nextRecord = s.nextRecord ∧ (s.corrected c).state.keyer = s.keyer ∧ (s.corrected c).state.chains = s.chains ∧ (s.corrected c).state.monitor = s.monitor ∧ (s.corrected c).state.port = s.port ∧ (s.corrected c).state.strobes = s.strobes ∧ (s.corrected c).state.pins = s.pins ∧ (s.corrected c).state.receivers = s.receivers ∧ (s.corrected c).state.lines = s.lines ∧ (s.corrected c).state.resetHeld = s.resetHeld ∧ (s.corrected c).state.freeCount = s.freeCount ∧ (s.corrected c).state.pending = s.pending := by
  simp [State.corrected]

/-- R70, R71: a capture in TRACK. -/
@[simp] theorem State.trackCapture_frame (r : RefNo) (e : Int) :
    (s.trackCapture r e).state.slots = s.slots ∧ (s.trackCapture r e).state.nextRecord = s.nextRecord ∧ (s.trackCapture r e).state.keyer = s.keyer ∧ (s.trackCapture r e).state.chains = s.chains ∧ (s.trackCapture r e).state.monitor = s.monitor ∧ (s.trackCapture r e).state.port = s.port ∧ (s.trackCapture r e).state.strobes = s.strobes ∧ (s.trackCapture r e).state.pins = s.pins ∧ (s.trackCapture r e).state.receivers = s.receivers ∧ (s.trackCapture r e).state.lines = s.lines ∧ (s.trackCapture r e).state.resetHeld = s.resetHeld ∧ (s.trackCapture r e).state.freeCount = s.freeCount ∧ (s.trackCapture r e).state.pending = s.pending := by
  unfold State.trackCapture; dsimp only; split <;> (try split) <;> simp [State.uncorrected]

/-- R73: a first capture. -/
@[simp] theorem State.firstCapture_frame (e : Int) :
    (s.firstCapture e).state.slots = s.slots ∧ (s.firstCapture e).state.nextRecord = s.nextRecord ∧ (s.firstCapture e).state.keyer = s.keyer ∧ (s.firstCapture e).state.chains = s.chains ∧ (s.firstCapture e).state.monitor = s.monitor ∧ (s.firstCapture e).state.port = s.port ∧ (s.firstCapture e).state.strobes = s.strobes ∧ (s.firstCapture e).state.pins = s.pins ∧ (s.firstCapture e).state.receivers = s.receivers ∧ (s.firstCapture e).state.lines = s.lines ∧ (s.firstCapture e).state.resetHeld = s.resetHeld ∧ (s.firstCapture e).state.freeCount = s.freeCount ∧ (s.firstCapture e).state.pending = s.pending := by
  unfold State.firstCapture; dsimp only; split <;> (try split) <;> simp [State.uncorrected]

/-- R74: a step. -/
@[simp] theorem State.stepCapture_frame (r : RefNo) (c : Capture) (m : Mask) :
    (s.stepCapture r c m).state.slots = s.slots ∧ (s.stepCapture r c m).state.nextRecord = s.nextRecord ∧ (s.stepCapture r c m).state.keyer = s.keyer ∧ (s.stepCapture r c m).state.chains = s.chains ∧ (s.stepCapture r c m).state.monitor = s.monitor ∧ (s.stepCapture r c m).state.port = s.port ∧ (s.stepCapture r c m).state.strobes = s.strobes ∧ (s.stepCapture r c m).state.pins = s.pins ∧ (s.stepCapture r c m).state.receivers = s.receivers ∧ (s.stepCapture r c m).state.lines = s.lines ∧ (s.stepCapture r c m).state.resetHeld = s.resetHeld ∧ (s.stepCapture r c m).state.freeCount = s.freeCount ∧ (s.stepCapture r c m).state.pending = s.pending := by
  unfold State.stepCapture; dsimp only; simp

/-- R75: a slewing capture. -/
@[simp] theorem State.slewCapture_frame (r : RefNo) (c : Capture) (m : Mask) (b : Bool) :
    (s.slewCapture r c m b).state.slots = s.slots ∧ (s.slewCapture r c m b).state.nextRecord = s.nextRecord ∧ (s.slewCapture r c m b).state.keyer = s.keyer ∧ (s.slewCapture r c m b).state.chains = s.chains ∧ (s.slewCapture r c m b).state.monitor = s.monitor ∧ (s.slewCapture r c m b).state.port = s.port ∧ (s.slewCapture r c m b).state.strobes = s.strobes ∧ (s.slewCapture r c m b).state.pins = s.pins ∧ (s.slewCapture r c m b).state.receivers = s.receivers ∧ (s.slewCapture r c m b).state.lines = s.lines ∧ (s.slewCapture r c m b).state.resetHeld = s.resetHeld ∧ (s.slewCapture r c m b).state.freeCount = s.freeCount ∧ (s.slewCapture r c m b).state.pending = s.pending := by
  unfold State.slewCapture; dsimp only; simp

/-- a capture in ACQUIRE. -/
@[simp] theorem State.acquireCapture_frame (r : RefNo) (c : Capture) (m : Mask) (b : Bool) :
    (s.acquireCapture r c m b).state.slots = s.slots ∧ (s.acquireCapture r c m b).state.nextRecord = s.nextRecord ∧ (s.acquireCapture r c m b).state.keyer = s.keyer ∧ (s.acquireCapture r c m b).state.chains = s.chains ∧ (s.acquireCapture r c m b).state.monitor = s.monitor ∧ (s.acquireCapture r c m b).state.port = s.port ∧ (s.acquireCapture r c m b).state.strobes = s.strobes ∧ (s.acquireCapture r c m b).state.pins = s.pins ∧ (s.acquireCapture r c m b).state.receivers = s.receivers ∧ (s.acquireCapture r c m b).state.lines = s.lines ∧ (s.acquireCapture r c m b).state.resetHeld = s.resetHeld ∧ (s.acquireCapture r c m b).state.freeCount = s.freeCount ∧ (s.acquireCapture r c m b).state.pending = s.pending := by
  unfold State.acquireCapture; split <;> (try split) <;> simp [State.uncorrected]

/-- R69: a capture handed on. -/
@[simp] theorem State.takeCapture_frame (r : RefNo) (c : Capture) (m : Mask) (b : Bool) :
    (s.takeCapture r c m b).state.slots = s.slots ∧ (s.takeCapture r c m b).state.nextRecord = s.nextRecord ∧ (s.takeCapture r c m b).state.keyer = s.keyer ∧ (s.takeCapture r c m b).state.chains = s.chains ∧ (s.takeCapture r c m b).state.monitor = s.monitor ∧ (s.takeCapture r c m b).state.port = s.port ∧ (s.takeCapture r c m b).state.strobes = s.strobes ∧ (s.takeCapture r c m b).state.pins = s.pins ∧ (s.takeCapture r c m b).state.receivers = s.receivers ∧ (s.takeCapture r c m b).state.lines = s.lines ∧ (s.takeCapture r c m b).state.resetHeld = s.resetHeld ∧ (s.takeCapture r c m b).state.freeCount = s.freeCount ∧ (s.takeCapture r c m b).state.pending = s.pending := by
  unfold State.takeCapture; split <;> (try split) <;> simp [State.uncorrected]

/-- R49: an edge event. -/
@[simp] theorem State.edgeEvent_frame (r : RefNo) :
    (s.edgeEvent r).state.slots = s.slots ∧ (s.edgeEvent r).state.nextRecord = s.nextRecord ∧ (s.edgeEvent r).state.keyer = s.keyer ∧ (s.edgeEvent r).state.chains = s.chains ∧ (s.edgeEvent r).state.monitor = s.monitor ∧ (s.edgeEvent r).state.port = s.port ∧ (s.edgeEvent r).state.strobes = s.strobes ∧ (s.edgeEvent r).state.pins = s.pins ∧ (s.edgeEvent r).state.receivers = s.receivers ∧ (s.edgeEvent r).state.lines = s.lines ∧ (s.edgeEvent r).state.resetHeld = s.resetHeld ∧ (s.edgeEvent r).state.freeCount = s.freeCount ∧ (s.edgeEvent r).state.pending = s.pending := by
  unfold State.edgeEvent; dsimp only; split <;> simp [State.uncorrected]

/-- R34: the time scale at an epoch. -/
@[simp] theorem State.timeStep_frame :
    s.timeStep.state.refs = s.refs ∧ s.timeStep.state.selector = s.selector ∧ s.timeStep.state.counter = s.counter ∧ s.timeStep.state.keyer = s.keyer ∧ s.timeStep.state.chains = s.chains ∧ s.timeStep.state.monitor = s.monitor ∧ s.timeStep.state.port = s.port ∧ s.timeStep.state.strobes = s.strobes ∧ s.timeStep.state.pins = s.pins ∧ s.timeStep.state.receivers = s.receivers ∧ s.timeStep.state.lines = s.lines ∧ s.timeStep.state.resetHeld = s.resetHeld ∧ s.timeStep.state.pending = s.pending := by
  unfold State.timeStep State.plainAdvance State.declineLoad State.unchangedLoad; dsimp only; split <;> (try split) <;> (try split) <;> (try split) <;> simp

/-- No reaction to an epoch touches the counter, the port, the strobes or the pins. -/
@[simp] theorem State.react_frame (c : EpochCtx) (r : Reaction) :
    (State.react c s r).counter = s.counter ∧ (State.react c s r).port = s.port ∧ (State.react c s r).strobes = s.strobes ∧ (State.react c s r).pins = s.pins ∧ (State.react c s r).receivers = s.receivers ∧ (State.react c s r).lines = s.lines ∧ (State.react c s r).resetHeld = s.resetHeld ∧ (State.react c s r).pending = s.pending := by
  cases r <;> simp [State.react] <;> split <;> simp

/-- R64: what an epoch leaves, in whatever order its blocks react: a nominal second begins, and the port, the strobes and the pins are as they were. -/
theorem State.epochInOrder_frame (order : List Reaction) :
    (s.epochInOrder order).counter = { phase := 0, length := nominalSecond } ∧ (s.epochInOrder order).port = s.port ∧ (s.epochInOrder order).strobes = s.strobes ∧ (s.epochInOrder order).pins = s.pins ∧ (s.epochInOrder order).receivers = s.receivers ∧ (s.epochInOrder order).lines = s.lines ∧ (s.epochInOrder order).resetHeld = s.resetHeld ∧ (s.epochInOrder order).pending = s.pending := by
  unfold State.epochInOrder
  refine ⟨(foldl_keeps State.counter _ (fun b a => by simp) _ _).trans (by simp), (foldl_keeps State.port _ (fun b a => by simp) _ _).trans (by simp), (foldl_keeps State.strobes _ (fun b a => by simp) _ _).trans (by simp), (foldl_keeps State.pins _ (fun b a => by simp) _ _).trans (by simp), (foldl_keeps State.receivers _ (fun b a => by simp) _ _).trans (by simp), (foldl_keeps State.lines _ (fun b a => by simp) _ _).trans (by simp), (foldl_keeps State.resetHeld _ (fun b a => by simp) _ _).trans (by simp), (foldl_keeps State.pending _ (fun b a => by simp) _ _).trans (by simp)⟩

end Sys2Proof.Machine
end

