-- ==== Sys2Proof/Laws/PerInstr.lean ====
section
/-! SUPPORT. Laws/PerInstr.lean: the family CarriedText: every text that a well-formed command carries is at most 95 characters long and made of eight-bit codes. -/

namespace Sys2Proof.Laws.CarriedText

/-- The texts that a command carries. -/
def texts : Instr → List Text
  | .stat fields => fields
  | .sett fields => fields
  | .refc fields => fields
  | .refs fields => fields
  | .selc fields => fields
  | .disc fields => fields
  | .zonc fields => fields
  | .annw fields => fields
  | .annr fields => fields
  | .annc fields => fields
  | .keyc fields => fields
  | .outc fields => fields
  | .monc fields => fields
  | .monr fields => fields
  | .recr fields => fields
  | .mntc fields => fields
  | .note fields => fields
  | .nmsk fields => fields
  | .rset fields => fields
  | .recordNotTaken chars _ _ => [chars]
  | .overrun chars => [chars]
  | .wordCompletion _ (some w) => [w]
  | .controlCharacterReceived ch => [[ch.code]]
  | .wordCharacterReceived _ ch => [[ch.code]]
  | _ => []

/-- The text is short enough for the line, and made of codes of eight bits (R170, R195). -/
def Fits (t : Text) : Prop := t.length ≤ 95 ∧ ∀ c ∈ t, c.toNat < 256

/-- The family's statement about one command. -/
def Statement (i : Instr) : Prop := i.wf = true → ∀ t ∈ texts i, Fits t

theorem code_of_stored {c : Char} (h : isStoredChar c = true) : c.toNat < 256 := by
  simp [isStoredChar] at h
  omega

theorem code_of_field {c : Char} (h : isFieldChar c = true) : c.toNat < 256 := by
  simp only [isFieldChar, Bool.and_eq_true] at h
  exact code_of_stored h.1.1

theorem length_le_sum : ∀ {fs : List Text} {f : Text}, f ∈ fs → f.length ≤ (fs.map List.length).sum
  | g :: gs, f, h => by
    simp only [List.map_cons, List.sum_cons]
    rcases List.mem_cons.1 h with rfl | h
    · omega
    · have := length_le_sum h
      omega

/-- The fields of a command that fits its record. -/
theorem fields_fit {fields : List Text} (h : fieldsWf fields = true) : ∀ t ∈ fields, Fits t := by
  intro t ht
  simp only [fieldsWf, Bool.and_eq_true, List.all_eq_true, Bool.or_eq_true, decide_eq_true_eq] at h
  refine ⟨?_, fun c hc => code_of_field (h.1 t ht c hc)⟩
  rcases h.2 with h2 | h2
  · rw [List.isEmpty_iff] at h2
    subst h2
    cases ht
  · have := length_le_sum ht
    have h3 := h2.2
    simp only [fieldsLength] at h3
    omega

/-- The characters of a receive buffer. -/
theorem record_fits {chars : Text} (h : recordWf chars = true) : Fits chars := by
  cases chars with
  | nil => simp [recordWf] at h
  | cons a as =>
    simp only [recordWf, Bool.and_eq_true, beq_iff_eq, List.all_eq_true, decide_eq_true_eq] at h
    refine ⟨by simp only [List.length_cons]; omega, fun c hc => ?_⟩
    rcases List.mem_cons.1 hc with rfl | hc
    · rw [h.1.1]; decide
    · exact code_of_stored (h.1.2 c hc)

/-- One character that is a code. -/
theorem char_fits {c : Char} (h : isCode c = true) : ∀ t ∈ [[c]], Fits t := by
  intro t ht
  rw [List.mem_singleton.1 ht]
  refine ⟨by simp, fun d hd => ?_⟩
  rw [List.mem_singleton.1 hd]
  simpa [isCode] using h

/-- A command that carries no text. -/
theorem none_fit : ∀ t ∈ ([] : List Text), Fits t := fun _ h => nomatch h

theorem stat (fields : List Text) : Statement (.stat fields) := fun h => fields_fit h

theorem sett (fields : List Text) : Statement (.sett fields) := fun h => fields_fit h

theorem refc (fields : List Text) : Statement (.refc fields) := fun h => fields_fit h

theorem refs (fields : List Text) : Statement (.refs fields) := fun h => fields_fit h

theorem selc (fields : List Text) : Statement (.selc fields) := fun h => fields_fit h

theorem disc (fields : List Text) : Statement (.disc fields) := fun h => fields_fit h

theorem zonc (fields : List Text) : Statement (.zonc fields) := fun h => fields_fit h

theorem annw (fields : List Text) : Statement (.annw fields) := fun h => fields_fit h

theorem annr (fields : List Text) : Statement (.annr fields) := fun h => fields_fit h

theorem annc (fields : List Text) : Statement (.annc fields) := fun h => fields_fit h

theorem keyc (fields : List Text) : Statement (.keyc fields) := fun h => fields_fit h

theorem outc (fields : List Text) : Statement (.outc fields) := fun h => fields_fit h

theorem monc (fields : List Text) : Statement (.monc fields) := fun h => fields_fit h

theorem monr (fields : List Text) : Statement (.monr fields) := fun h => fields_fit h

theorem recr (fields : List Text) : Statement (.recr fields) := fun h => fields_fit h

theorem mntc (fields : List Text) : Statement (.mntc fields) := fun h => fields_fit h

theorem note (fields : List Text) : Statement (.note fields) := fun h => fields_fit h

theorem nmsk (fields : List Text) : Statement (.nmsk fields) := fun h => fields_fit h

theorem rset (fields : List Text) : Statement (.rset fields) := fun h => fields_fit h

theorem rsetResetTaken (bs1 : Level) (bs0 : Level) : Statement (.rsetResetTaken bs1 bs0) := fun _ => none_fit

theorem recordNotTaken (chars : Text) (overlong : Bool) (badChar : Bool) : Statement (.recordNotTaken chars overlong badChar) := by
  intro h t ht
  rw [List.mem_singleton.1 ht]
  simp only [Instr.wf, Bool.and_eq_true] at h
  exact record_fits h.1

theorem overrun (chars : Text) : Statement (.overrun chars) := by
  intro h t ht
  rw [List.mem_singleton.1 ht]
  exact record_fits h

theorem restart : Statement (.restart) := fun _ => none_fit

theorem replySent : Statement (.replySent) := fun _ => none_fit

theorem resetAsserted : Statement (.resetAsserted) := fun _ => none_fit

theorem resetReleased (bs1 : Level) (bs0 : Level) : Statement (.resetReleased bs1 bs0) := fun _ => none_fit

theorem localEpoch : Statement (.localEpoch) := fun _ => none_fit

theorem timeEnd : Statement (.timeEnd) := fun _ => none_fit

theorem holdoverLimitH1 : Statement (.holdoverLimitH1) := fun _ => none_fit

theorem holdoverExpiry : Statement (.holdoverExpiry) := fun _ => none_fit

theorem referenceEdge (r : RefNo) (edge : Edge) : Statement (.referenceEdge r edge) := fun _ => none_fit

theorem wordCompletion (r : RefNo) (word : Option Text) : Statement (.wordCompletion r word) := by
  cases word with
  | none => exact fun _ => none_fit
  | some w =>
    intro h t ht
    rw [List.mem_singleton.1 ht]
    simp only [Instr.wf, Bool.and_eq_true, beq_iff_eq, List.all_eq_true, isCode, decide_eq_true_eq] at h
    exact ⟨by omega, fun c hc => (h.2 c hc).1.1⟩

theorem monitorTransition (edge : Edge) : Statement (.monitorTransition edge) := fun _ => none_fit

theorem chainReady (c : Chain) (level : Level) : Statement (.chainReady c level) := fun _ => none_fit

theorem envelopeSegment : Statement (.envelopeSegment) := fun _ => none_fit

theorem controlCharacterReceived (ch : RxChar) : Statement (.controlCharacterReceived ch) := fun h => char_fits h

theorem wordCharacterReceived (r : RefNo) (ch : RxChar) : Statement (.wordCharacterReceived r ch) := fun h => char_fits h

end Sys2Proof.Laws.CarriedText
end

