-- ==== Sys2Proof/Laws/Shared.lean ====
section
/-! SUPPORT. Laws/Shared.lean: what the shared operations can do, once each: posting a notice, free interleavings, the reactions of an epoch, the monitor's places, the evaluation of the selector, a change of the keying mode, the taking of a command, a receiver's sample, a tick, a step, and the queue. -/

namespace Sys2Proof.Machine

/-! ### The notice list -/

/-- R181: an occurrence of a masked kind is dropped. -/
theorem NoticeList.post_masked {l : NoticeList} {d : NoticeData} (label : Option Label) (h : d.kind ∈ l.mask) :
    l.post d label = l := by
  simp [NoticeList.post, h]

/-- R181: an occurrence of a kind not yet listed is added at the end. -/
theorem NoticeList.post_new {l : NoticeList} {d : NoticeData} (label : Option Label) (hm : d.kind ∉ l.mask)
    (hn : ∀ e ∈ l.entries, e.data.kind ≠ d.kind) :
    l.post d label = { l with entries := l.entries ++ [{ data := d, count := 1, label := label }] } := by
  have h : l.holds d.kind = false := by
    simp only [NoticeList.holds, List.any_eq_false, beq_iff_eq]
    exact hn
  simp [NoticeList.post, hm, h]

/-- R181: posting leaves the mask as it is. -/
@[simp] theorem NoticeList.post_mask (l : NoticeList) (d : NoticeData) (label : Option Label) :
    (l.post d label).mask = l.mask := by
  unfold NoticeList.post
  split
  · rfl
  · split <;> rfl

/-- The kinds listed after a post: those before it, and perhaps the posted one. -/
theorem NoticeList.post_kinds (l : NoticeList) (d : NoticeData) (label : Option Label) :
    (l.post d label).entries.map (fun e => e.data.kind) = l.entries.map (fun e => e.data.kind) ∨
      ((∀ e ∈ l.entries, e.data.kind ≠ d.kind) ∧
        (l.post d label).entries.map (fun e => e.data.kind) = l.entries.map (fun e => e.data.kind) ++ [d.kind]) := by
  unfold NoticeList.post
  split
  · exact Or.inl rfl
  · split
    · left
      simp only [List.map_map]
      refine List.map_congr_left (fun e _ => ?_)
      by_cases h : e.data.kind = d.kind <;> simp [h, Notice.merge]
    · rename_i h
      right
      refine ⟨fun e he hk => h ?_, by simp⟩
      exact List.any_eq_true.2 ⟨e, he, by simpa using hk⟩

/-- R180: posting keeps the kinds distinct. -/
theorem NoticeList.post_distinct {l : NoticeList} (d : NoticeData) (label : Option Label) (h : l.distinct) :
    (l.post d label).distinct := by
  unfold NoticeList.distinct at *
  rcases l.post_kinds d label with e | ⟨hn, e⟩
  · rw [e]; exact h
  · rw [e, List.nodup_append]
    refine ⟨h, by simp, ?_⟩
    intro k hk k' hk'
    rw [List.mem_singleton.1 hk']
    obtain ⟨x, hx, rfl⟩ := List.mem_map.1 hk
    exact hn x hx

/-- R180: posting keeps every count within 1..255. -/
theorem NoticeList.post_counted {l : NoticeList} (d : NoticeData) (label : Option Label) (h : l.counted) :
    (l.post d label).counted := by
  unfold NoticeList.counted NoticeList.post at *
  split
  · exact h
  · split
    · intro e he
      obtain ⟨x, hx, rfl⟩ := List.mem_map.1 he
      split
      · simp only [Notice.merge]; omega
      · exact h x hx
    · intro e he
      rcases List.mem_append.1 he with he | he
      · exact h e he
      · rw [List.mem_singleton.1 he]; simp

/-- R180: posting keeps RESET out of the mask. -/
theorem NoticeList.post_maskFits {l : NoticeList} (d : NoticeData) (label : Option Label) (h : l.maskFits) :
    (l.post d label).maskFits := by
  simpa [NoticeList.maskFits] using h

/-- R180: posting keeps the laws of the list. -/
theorem NoticeList.post_lawful {l : NoticeList} (d : NoticeData) (label : Option Label) (h : l.lawful) :
    (l.post d label).lawful :=
  ⟨post_distinct d label h.1, post_counted d label h.2.1, post_maskFits d label h.2.2⟩

/-- An occurrence that is not masked is listed with its data and label. -/
theorem NoticeList.post_lists {l : NoticeList} {d : NoticeData} (label : Option Label) (h : d.kind ∉ l.mask) :
    ∃ e ∈ (l.post d label).entries, e.data = d ∧ e.label = label := by
  unfold NoticeList.post
  rw [if_neg (by simpa using h)]
  split
  · rename_i hh
    obtain ⟨e, he, hk⟩ := List.any_eq_true.1 hh
    refine ⟨e.merge d label, List.mem_map.2 ⟨e, he, by rw [if_pos hk]⟩, rfl, rfl⟩
  · exact ⟨_, List.mem_append_right _ (List.mem_singleton.2 rfl), rfl, rfl⟩

/-- A listed entry of another kind stays as it is. -/
theorem NoticeList.post_keeps {l : NoticeList} {d : NoticeData} {e : Notice} (label : Option Label)
    (he : e ∈ l.entries) (hk : e.data.kind ≠ d.kind) : e ∈ (l.post d label).entries := by
  unfold NoticeList.post
  split
  · exact he
  · split
    · exact List.mem_map.2 ⟨e, he, by rw [if_neg (by simpa using hk)]⟩
    · exact List.mem_append_left _ he

/-! ### Free interleavings -/

theorem insertFree_perm {α : Type} (n : Nat) (x : α) (xs : List α) : (insertFree n x xs).Perm (x :: xs) := by
  unfold insertFree
  refine List.perm_middle.trans ?_
  rw [List.take_append_drop]

/-- Every interleaving holds exactly the elements of both lists. -/
theorem interleave_perm {α : Type} : ∀ (n : Nat) (free fixedOnes : List α),
    (interleave n free fixedOnes).Perm (free ++ fixedOnes)
  | _, [], _ => List.Perm.refl _
  | n, x :: free, fixedOnes => by
    rw [interleave, List.cons_append]
    refine (interleave_perm _ free _).trans ?_
    refine ((insertFree_perm n x fixedOnes).append_left free).trans ?_
    exact List.perm_middle

/-- The fixed ones keep their order in every interleaving. -/
theorem sublist_interleave {α : Type} : ∀ (n : Nat) (free fixedOnes : List α), fixedOnes.Sublist (interleave n free fixedOnes)
  | _, [], _ => List.Sublist.refl _
  | n, x :: free, fixedOnes => by
    refine List.Sublist.trans ?_ (sublist_interleave (n / (fixedOnes.length + 1)) free (insertFree n x fixedOnes))
    unfold insertFree
    conv => lhs; rw [← List.take_append_drop (n % (fixedOnes.length + 1)) fixedOnes]
    exact List.Sublist.append_left (List.sublist_cons_self _ _) _

/-! ### An epoch -/

/-- R64: an epoch takes every reaction once. -/
theorem reactionOrder_perm (n m : Nat) :
    (reactionOrder n m).Perm
      [.review 0, .review 1, .review 2, .composition, .table, .rangeEnd, .settings, .maintenance, .keyer, .monitor,
       .holdover] :=
  (interleave_perm n _ _).trans (((interleave_perm m [Reaction.keyer, .monitor, .holdover] []).cons _ |>.cons _).append_left _)

/-- R85, R151: settings and maintenance come before the keyer, the monitor and the holdover timers. -/
theorem reactionOrder_first (n m : Nat) {x : Reaction} (h : x = .keyer ∨ x = .monitor ∨ x = .holdover) :
    [Reaction.settings, .maintenance, x].Sublist (reactionOrder n m) := by
  refine List.Sublist.trans ?_ (sublist_interleave n _ _)
  refine ((List.singleton_sublist.2 ?_).cons_cons _).cons_cons _
  rw [(interleave_perm m _ _).mem_iff]
  rcases h with rfl | rfl | rfl <;> decide

/-- Whatever holds after the time scale's part of an epoch and is kept by every reaction holds after the epoch. -/
theorem State.localEpoch_induct {s : State} (P : State → Prop)
    (time : P (s.countFree.countFree.beginSecond.timeStep).state)
    (react : ∀ c t x, P t → P (State.react c t x)) : P s.localEpoch := by
  unfold State.localEpoch State.epochInOrder
  dsimp only
  generalize s.countFree.countFree.epochCtx _ = c
  generalize reactionOrder _ _ = order
  generalize (s.countFree.countFree.beginSecond.timeStep).state = t at time
  induction order generalizing t with
  | nil => exact time
  | cons x xs ih => exact ih _ (react _ _ _ time)

/-! ### The monitor's places -/

/-- R155: the model's test of a place is that the interval lies within the tolerance of it. -/
theorem Interval.isAt_iff {i : Interval} {t start duration : Nat} : i.isAt t start duration = true ↔ i.fits t start duration := by
  simp [Interval.isAt, within, Interval.fits]

/-! ### The selector -/

/-- R61: what the selector names is GOOD. -/
theorem bestGood_good {refs : Vector Reference 3} {r : RefNo} (h : bestGood refs = some r) :
    (refs[r]).state = .good := by
  have step : ∀ (b : Option RefNo) (q : RefNo), (∀ x, b = some x → (refs[x]).state = .good) →
      ∀ x, betterRef refs b q = some x → (refs[x]).state = .good := by
    intro b q hb x hx
    unfold betterRef at hx
    split at hx
    · rename_i hq
      split at hx
      · cases hx; exact hq
      · split at hx
        · cases hx; exact hq
        · cases hx; exact hb _ rfl
    · exact hb x hx
  simp only [bestGood, allRefs, List.foldl_cons, List.foldl_nil] at h
  exact step _ _ (step _ _ (step _ _ (fun x (hx : none = some x) => by cases hx))) r h

/-- R61: what the selector names is GOOD, whatever its mode. -/
theorem choose_good {refs : Vector Reference 3} {sel : Selector} {r : RefNo} (h : choose refs sel = some r) :
    (refs[r]).state = .good := by
  unfold choose at h
  split at h
  · exact bestGood_good h
  · split at h
    · split at h
      · rename_i hg; cases h; exact hg
      · exact bestGood_good h
    · exact bestGood_good h
  · split at h
    · rename_i hg; cases h; exact hg
    · cases h

/-- R61: after an evaluation the selected reference is the one the mode names. -/
theorem State.evaluate_selected (s : State) (k : SelCause) (l : Option Label) :
    (s.evaluate k l).selector.selected = choose s.refs s.selector := by
  unfold State.evaluate
  dsimp only
  split
  · rename_i h; exact h.symm
  · simp

/-- R61: after an evaluation the selected reference is GOOD. -/
theorem State.evaluate_selectedGood (s : State) (k : SelCause) (l : Option Label) : (s.evaluate k l).selectedGood := by
  intro r h
  rw [State.evaluate_selected] at h
  have := choose_good h
  simpa [State.ref] using this

/-- R62, R68: what an evaluation posts, and what it does to the discipline controller. -/
theorem State.evaluate_tookSelection (s : State) (k : SelCause) (l : Option Label) :
    (s.evaluate k l).tookSelection s s.notices k l := by
  unfold State.evaluate
  dsimp only
  generalize choose s.refs s.selector = new
  split
  · exact ⟨fun _ => ⟨rfl, rfl⟩, fun h => absurd rfl h⟩
  · rename_i hne
    cases hd : s.disc.state <;> cases new <;>
      simp_all [State.tookSelection, State.takeSelection, State.setDisc, State.post]

/-! ### The keying mode -/

/-- R138: what a change of the keying mode posts. -/
theorem State.setMode_keysFrom (s : State) (mode : KeyMode) (cause : KeyCause) (label : Option Label) :
    (s.setMode mode cause label).keysFrom s.keyer.mode s.notices mode cause label := by
  unfold State.setMode State.keysFrom
  split <;> simp_all [State.post]

/-! ### Taking a command -/

/-- R187: a command that completes while reset is asserted does nothing. -/
theorem State.takeCommand_held {s : State} (c : Command) (owner : State → Answer) (h : s.resetHeld = true) :
    s.takeCommand c owner = s := by
  simp [State.takeCommand, h]

/-- R175: a command that completes while a reply is in transmission is discarded and reported. -/
theorem State.takeCommand_busy {s : State} (c : Command) (owner : State → Answer) (h : s.resetHeld = false)
    (hb : s.port.reply ≠ none) :
    s.takeCommand c owner = s.hunting.postLink (.overrun (some (commandWord c))) := by
  unfold State.takeCommand
  rw [if_neg (by simp [h])]
  split
  · rfl
  · rename_i h'; exact absurd h' hb

/-- R174: a command that completes with the line free is its owner's. -/
theorem State.takeCommand_free {s : State} (c : Command) (owner : State → Answer) (h : s.lineFree) :
    s.takeCommand c owner = (owner s.hunting).send c := by
  simp [State.takeCommand, h.1, h.2]

/-- R173: a refusal is the reply alone. -/
theorem State.refuse_send (s : State) (c : Command) (e : Status) :
    (s.hunting.refuse e).send c = s.replied c e [] := rfl

/-! ### Output and input lines -/

/-- R194: a strobe line is high exactly while one or two ticks are left of its strobe. -/
theorem strobeLevel_eq_high {n : Nat} : strobeLevel n = .high ↔ n = 1 ∨ n = 2 := by
  unfold strobeLevel
  split <;> simp <;> omega

/-- R195: a receiver holds the level that it sampled last. -/
@[simp] theorem Receiver.sample_level (b : Nat) (x : Receiver) (l : Level) : (x.sample b l).1.level = l := by
  unfold Receiver.sample
  repeat' split
  all_goals rfl

/-- R195: a receiver gives a character only where the stop bit of a reception has been sampled, and then exactly that character. -/
theorem Receiver.sample_char {b : Nat} {x : Receiver} {l : Level} {c : RxChar} (h : (x.sample b l).2 = some c) :
    ∃ p, x.reception = some p ∧ 9 ≤ p.bits.length ∧ p.char = c := by
  unfold Receiver.sample at h
  split at h
  · cases h
  · rename_i p hp
    refine ⟨p, hp, ?_⟩
    split at h
    · cases h
    · split at h
      · exact ⟨by omega, Option.some.inj h⟩
      · split at h
        · exact ⟨by omega, Option.some.inj h⟩
        · cases h

/-- R195: an idle receiver on a line that stays high changes nothing. -/
theorem Receiver.sample_idle (b : Nat) : Receiver.reset.sample b .high = (Receiver.reset, none) := rfl

/-- R41: an edge line reads back the level that it takes, and the other lines keep theirs. -/
theorem State.setEdgePin_refe (s : State) (r q : RefNo) (l : Level) :
    (s.setEdgePin r l).pins.refe[q] = if q = r then l else s.pins.refe[q] := by
  unfold State.setEdgePin
  by_cases h : q = r
  · subst h; simp
  · have : r.val ≠ q.val := fun e => h (Fin.ext e.symm)
    simp [h, this]

/-! ### Ticks -/

/-- A tick that brings nothing is the passing of time. -/
theorem State.tick_none {s : State} (h : s.tickEvents = []) : s.tick = s.passTick := by
  simp [State.tick, h]

/-- What a tick brings alone follows the passing of time. -/
theorem State.tick_one {s : State} {e : TickEvent} (h : s.tickEvents = [e]) : s.tick = s.passTick.tickEvent e := by
  simp [State.tick, h]

/-- What a tick brings together is taken in some order. -/
theorem State.tick_many {s : State} (h : 2 ≤ s.tickEvents.length) :
    ∃ order : List TickEvent, order.Perm s.tickEvents ∧ s.tick = order.foldl State.tickEvent s.passTick.countFree := by
  refine ⟨interleave s.freeNow s.tickEvents [], by simpa using interleave_perm s.freeNow s.tickEvents [], ?_⟩
  unfold State.tick
  split
  · rename_i h'; simp [h'] at h
  · rename_i h'; simp [h'] at h
  · rfl

/-- Whatever holds of the state after a tick's time has passed, with or without a free number read, and is kept by each thing a tick brings, holds after the tick. -/
theorem State.tick_induct {s : State} (P : State → Prop) (pass : P s.passTick) (free : P s.passTick.countFree)
    (event : ∀ t e, P t → P (t.tickEvent e)) : P s.tick := by
  unfold State.tick
  split
  · exact pass
  · exact event _ _ pass
  · generalize interleave _ _ _ = order
    generalize s.passTick.countFree = t at free
    induction order generalizing t with
    | nil => exact free
    | cons e es ih => exact ih _ (event _ _ free)

/-! ### Steps -/

/-- A step with a command in front of the queue runs it on the queue's rest. -/
theorem step_of_cons {s : State} {c : Instr} {rest : List Instr} (h : s.pending = c :: rest) :
    step s = exec c { s with pending := rest } := by
  simp [step, h]

/-- A step on an empty queue is what the part does by itself. -/
theorem step_of_nil {s : State} (h : s.pending = []) : step s = .next s.idle := by
  simp [step, h]

end Sys2Proof.Machine
end

