-- ==== Sys2Proof/Laws/Text.lean ====
section
/-! SUPPORT. Laws/Text.lean: reading undoes writing for numbers, fixed digits, dates and names (R191). -/

namespace Sys2Proof.Machine

/-! ### Digits -/

theorem digitChar_toNat {d : Nat} (h : d < 10) : (digitChar d).toNat = 48 + d := by
  have : d = 0 ∨ d = 1 ∨ d = 2 ∨ d = 3 ∨ d = 4 ∨ d = 5 ∨ d = 6 ∨ d = 7 ∨ d = 8 ∨ d = 9 := by omega
  rcases this with h | h | h | h | h | h | h | h | h | h <;> subst h <;> rfl

theorem isDigit_digitChar {d : Nat} (h : d < 10) : isDigit (digitChar d) = true := by
  simp [isDigit, digitChar_toNat h]
  omega

theorem digitsVal_snoc (t : Text) (c : Char) : digitsVal (t ++ [c]) = 10 * digitsVal t + (c.toNat - 48) := by
  simp [digitsVal, List.foldl_append]

theorem digitsVal_snoc_digit (t : Text) {d : Nat} (h : d < 10) :
    digitsVal (t ++ [digitChar d]) = 10 * digitsVal t + d := by
  rw [digitsVal_snoc, digitChar_toNat h]
  omega

/-! ### Fixed digits -/

@[simp] theorem fixed_length (w n : Nat) : (fixed w n).length = w := by
  induction w generalizing n with
  | zero => rfl
  | succ w ih => simp [fixed, ih]

theorem fixed_digits (w n : Nat) : (fixed w n).all isDigit = true := by
  induction w generalizing n with
  | zero => rfl
  | succ w ih => simp [fixed, ih, isDigit_digitChar (Nat.mod_lt n (by decide : 0 < 10))]

theorem digitsVal_fixed (w n : Nat) : digitsVal (fixed w n) = n % 10 ^ w := by
  induction w generalizing n with
  | zero => simp [fixed, digitsVal, Nat.mod_one]
  | succ w ih =>
    rw [fixed, digitsVal_snoc_digit _ (Nat.mod_lt n (by decide)), ih, Nat.pow_succ', Nat.mod_mul]
    omega

/-- Fixed digits read back. -/
theorem readFixed_fixed {w n : Nat} (h : n < 10 ^ w) : readFixed w (fixed w n) = some n := by
  rw [readFixed, if_pos ⟨fixed_length w n, fixed_digits w n⟩, digitsVal_fixed, Nat.mod_eq_of_lt h]

theorem digitsVal_append (a b : Text) : digitsVal (a ++ b) = digitsVal a * 10 ^ b.length + digitsVal b := by
  have aux : ∀ (b : Text) (n : Nat),
      b.foldl (fun n c => 10 * n + (c.toNat - 48)) n = n * 10 ^ b.length + digitsVal b := by
    intro b
    induction b with
    | nil => intro n; simp [digitsVal]
    | cons c b ih =>
      intro n
      have h1 := ih (10 * n + (c.toNat - 48))
      have h2 := ih (10 * 0 + (c.toNat - 48))
      rw [List.foldl_cons, h1]
      have h3 : digitsVal (c :: b) = (10 * 0 + (c.toNat - 48)) * 10 ^ b.length + digitsVal b := by
        rw [← h2]; rfl
      rw [h3, List.length_cons, Nat.pow_succ, Nat.mul_zero, Nat.zero_add, Nat.add_mul]
      have : 10 * n * 10 ^ b.length = n * (10 ^ b.length * 10) := by
        rw [Nat.mul_comm 10 n, Nat.mul_assoc, Nat.mul_comm 10]
      omega
  rw [digitsVal, List.foldl_append, aux]
  rfl

/-! ### Numbers -/

theorem decimalAux_spec (fuel n : Nat) (h : n < 10 ^ fuel) :
    digitsVal (decimalAux fuel n) = n ∧ (decimalAux fuel n).all isDigit = true ∧
      (∀ k, 0 < k → n < 10 ^ k → (decimalAux fuel n).length ≤ k) := by
  induction fuel generalizing n with
  | zero =>
    have : n = 0 := by simpa using h
    subst this
    exact ⟨rfl, rfl, fun k _ _ => Nat.zero_le k⟩
  | succ fuel ih =>
    unfold decimalAux
    split
    · rename_i h'
      refine ⟨by simpa [digitsVal] using digitsVal_snoc_digit [] h', by simp [isDigit_digitChar h'], fun k hk _ => ?_⟩
      simp only [List.length_singleton]; omega
    · rename_i h'
      have hd : n / 10 < 10 ^ fuel := by
        rw [Nat.pow_succ] at h
        omega
      obtain ⟨h1, h2, h3⟩ := ih (n / 10) hd
      refine ⟨?_, ?_, ?_⟩
      · rw [digitsVal_snoc_digit _ (Nat.mod_lt n (by decide)), h1]; omega
      · rw [List.all_append, h2]; simp [isDigit_digitChar (Nat.mod_lt n (by decide : 0 < 10))]
      · intro k hk hn
        cases k with
        | zero => omega
        | succ k =>
          rw [List.length_append]
          have hk0 : 0 < k := by
            cases k with
            | zero => simp at hn; omega
            | succ k => omega
          have : n / 10 < 10 ^ k := by
            rw [Nat.pow_succ] at hn
            omega
          have := h3 k hk0 this
          simp only [List.length_singleton]
          omega

theorem decimalAux_ne_nil (fuel n : Nat) : decimalAux (fuel + 1) n ≠ [] := by
  unfold decimalAux
  split <;> simp

theorem lt_ten_pow_log2 (n : Nat) : n < 10 ^ (n.log2 + 1) :=
  Nat.lt_of_lt_of_le Nat.lt_log2_self (Nat.pow_le_pow_left (by decide) _)

@[simp] theorem decimal_ne_nil (n : Nat) : decimal n ≠ [] := decimalAux_ne_nil _ n

/-- R191: a number of at most nine digits reads back. -/
theorem readNumber_decimal {n : Nat} (h : n ≤ 999999999) : readNumber (decimal n) = some n := by
  obtain ⟨h1, h2, h3⟩ := decimalAux_spec (n.log2 + 1) n (lt_ten_pow_log2 n)
  have hl := h3 9 (by decide) (by omega)
  have hp : 0 < (decimal n).length := List.length_pos_iff.2 (decimal_ne_nil n)
  rw [readNumber, if_pos ⟨hp, hl, h2⟩]
  exact congrArg some h1

/-- A number within bounds reads back. -/
theorem readWithin_decimal {lo hi n : Nat} (h : n ≤ 999999999) :
    readWithin lo hi (decimal n) = if lo ≤ n ∧ n ≤ hi then some n else none := by
  rw [readWithin, readNumber_decimal h]

/-- R191: a signed number reads back. -/
theorem readSigned_signed {z : Int} (h : z.natAbs ≤ 999999999) : readSigned (signed z) = some z := by
  unfold signed signChar
  split
  · rename_i hz
    simp only [readSigned, readNumber_decimal h, Option.map_some, Int.ofNat_eq_natCast]
    congr 1; omega
  · rename_i hz
    simp only [readSigned, readNumber_decimal h, Option.map_some, Int.ofNat_eq_natCast]
    congr 1; omega

/-- A reference number reads back. -/
theorem readRef_decimal (r : RefNo) : readRef (decimal (r.val + 1)) = some r := by
  revert r; decide

/-- A slot number reads back. -/
theorem readSlot_decimal (k : SlotNo) : readSlot (decimal (k.val + 1)) = some k := by
  revert k; decide

/-- A chain number reads back. -/
theorem readChain_chainText (c : Chain) : readChain (chainText c) = some c := by
  cases c <;> decide

/-! ### Dates -/

theorem dateText_length (d : Date) : (dateText d).length = 8 := by simp [dateText]

/-- R191: a date reads back. -/
theorem readDate_dateText {d : Date} (hy : d.year < 10000) (hm : d.month < 100) (hd : d.day < 100) :
    readDate (dateText d) = some d := by
  have hv : digitsVal (dateText d) = d.year * 10000 + d.month * 100 + d.day := by
    rw [dateText, digitsVal_append, digitsVal_append, digitsVal_fixed, digitsVal_fixed, digitsVal_fixed,
      fixed_length, fixed_length]
    simp only [Nat.reducePow]
    omega
  have ha : (dateText d).all isDigit = true := by simp [dateText, fixed_digits]
  rw [readDate, readFixed, if_pos ⟨dateText_length d, ha⟩, Option.map_some, hv]
  congr 1
  obtain ⟨y, m, dd⟩ := d
  simp only at hy hm hd ⊢
  congr 1 <;> omega

/-- A valid date reads back. -/
theorem readDate_valid {d : Date} (h : d.valid = true) : readDate (dateText d) = some d := by
  simp only [Date.valid, Bool.and_eq_true, decide_eq_true_eq] at h
  have hl : monthLength d.year d.month ≤ 31 := by
    unfold monthLength
    split
    · split <;> omega
    · split <;> omega
  exact readDate_dateText (by omega) (by omega) (by omega)

/-! ### Fields -/

/-- A field that is not empty is what stands at its position. -/
theorem fieldAt_of_ne {fields : List Text} {i : Nat} {t : Text} (h : fields[i - 1]? = some t) (ht : t ≠ []) :
    fieldAt fields i = some t := by
  unfold fieldAt
  split
  · rename_i h'
    rw [h] at h'
    exact absurd (Option.some.inj h') ht
  · exact h

/-- A field that stands at its position is read, and is bad where it cannot be. -/
theorem optField_of_ne {α : Type} {fields : List Text} {i : Nat} {t : Text} (read : Text → Option α)
    (h : fields[i - 1]? = some t) (ht : t ≠ []) : optField fields i read = (read t).elim .bad .value := by
  unfold optField
  rw [fieldAt_of_ne h ht]
  dsimp only
  cases read t <;> rfl

/-- An empty text, or none, at a position is an absent field (R173). -/
theorem optField_absent {α : Type} {fields : List Text} {i : Nat} (read : Text → Option α)
    (h : fields[i - 1]? = some [] ∨ fields[i - 1]? = none) : optField fields i read = .absent := by
  rcases h with h | h <;> simp [optField, fieldAt, h]

/-- A required field that stands at its position is read. -/
theorem reqField_of_ne {α : Type} {fields : List Text} {i : Nat} {t : Text} (read : Text → Option α)
    (h : fields[i - 1]? = some t) (ht : t ≠ []) : reqField fields i read = read t := by
  unfold reqField
  rw [fieldAt_of_ne h ht]

/-- No field stands beyond n exactly when every text beyond n is empty. -/
theorem noneBeyond_iff (fields : List Text) (n : Nat) : noneBeyond fields n = true ↔ ∀ t ∈ fields.drop n, t = [] := by
  simp [noneBeyond, List.all_eq_true]

/-! ### Names -/

/-- A name reads back where the list holds what it names and no two of its names are alike. -/
theorem readName_self {α : Type} {text : α → Text} {all : List α} {a : α} (ha : a ∈ all)
    (hinj : ∀ b, text b = text a → b = a) : readName text all (text a) = some a := by
  unfold readName
  cases h : all.find? (fun b => text b == text a) with
  | none =>
    rw [List.find?_eq_none] at h
    exact absurd (beq_self_eq_true _) (h a ha)
  | some b =>
    have := List.find?_some h
    rw [hinj b (by simpa using this)]

/-- A text that spells no name in the list is read as none. -/
theorem readName_none {α : Type} {text : α → Text} {all : List α} {t : Text} (h : ∀ a ∈ all, text a ≠ t) :
    readName text all t = none := by
  unfold readName
  rw [List.find?_eq_none]
  intro a ha
  simpa using h a ha

end Sys2Proof.Machine
end

