-- ==== Sys2Proof/Tests/Slice0.lean ====
section
/-! SUPPORT. Tests/Slice0.lean: checks of this model's own work on small states: ill-formed commands, worked examples of the manual, and for every statement a state that meets its hypotheses, clause by clause. -/

namespace Sys2Proof.Tests

open Sys2Proof.Machine

/-! ### Helpers -/

/-- The state after a command. -/
def after (c : Instr) (s : State) : Option State :=
  match exec c s with
  | .next t => some t
  | _ => none

/-- The text of the reply that a command starts. -/
def replyTo (c : Instr) (s : State) : Option Text :=
  (after c s).bind (fun t => t.port.reply.map (fun r => r.toSend))

/-- The label of a date and time. -/
def labelOf (y mo d h mi sec : Nat) : Label :=
  { minute := minuteNumber (dayOfDate { year := y, month := mo, day := d }) h mi, second := sec }

/-- The part right after reset. -/
def fresh : State := State.reset

/-- The part while reset is asserted. -/
def held : State := fresh.holdReset

/-- A reply in transmission. -/
def busy : State := fresh.startReply "=X".toList false

/-- An RSET reply in transmission. -/
def resetting : State := fresh.startReply "=RSET OK*34\r\n".toList true

/-- A record under assembly. -/
def assembling (buffer : Text) : State :=
  { fresh with port := { fresh.port with receive := .assembling, buffer := buffer } }

/-- The time SET to a label. -/
def clock (l : Label) : State := { fresh with time := { fresh.time with label := some l } }

/-- A noon of 2026. -/
def noon : Label := labelOf 2026 7 17 12 0 0

/-- A discipline state. -/
def State.inDisc (s : State) (d : DiscState) : State := { s with disc := { s.disc with state := d } }

/-- A reference in a state. -/
def State.refIn (s : State) (r : RefNo) (x : RefState) : State := s.setRef r { s.ref r with state := x }

/-- Reference 1 GOOD, selected and tracked, with the time SET and the phase count given. -/
def tracking (phase : Nat) : State :=
  { State.inDisc (State.refIn (clock noon) 0 .good) .track with
    selector := { mode := .autoRevert, selected := some 0 }, counter := { phase := phase, length := 10000000 } }

/-- A pending load. -/
def State.loading (s : State) (p : PendingLoad) : State := { s with time := { s.time with pending := some p } }

/-- A slot set. -/
def State.slotIs (s : State) (k : SlotNo) (st : SlotState) (c : SlotContent) : State :=
  s.setSlot k (some { state := st, content := c, carried := false })

/-- A record for the minute after noon's. -/
def record : Record := (clock noon).newRecord { noon with second := 50 } 0

/-- The chains changed. -/
def State.withChains (s : State) (f : Chains → Chains) : State := { s with chains := f s.chains }

/-- A keyer that has a drop scheduled and is in a phase of it. -/
def shaping (p : EnvPhase) : State :=
  { fresh with keyer := { fresh.keyer with schedule := [{ start := 0, duration := 1000000 }], phase := p } }

/-- The phase count set. -/
def State.at (s : State) (phase : Nat) : State := { s with counter := { phase := phase, length := 10000000 } }

/-- The notices that a command adds after the entries of s. -/
def added (c : Instr) (s : State) : Option (List NoticeData) :=
  (after c s).map (fun t => (t.notices.entries.drop s.notices.entries.length).map (fun e => e.data))

/-- A command that the line can take. -/
theorem test_line_free : fresh.lineFree ∧ (clock noon).lineFree ∧ (tracking 0).lineFree := by
  unfold State.lineFree; decide

/-! ### Commands that nobody can send -/

theorem test_wf_rejects_a_field_with_a_comma : (Instr.stat ["A,B".toList]).wf = false := by decide
theorem test_wf_rejects_a_field_with_a_star : (Instr.sett ["A*".toList]).wf = false := by decide
theorem test_wf_rejects_a_field_with_a_colon : (Instr.refc ["1:".toList]).wf = false := by decide
theorem test_wf_rejects_a_field_with_a_return : (Instr.note [['\r']]).wf = false := by decide
theorem test_wf_rejects_a_single_empty_field : (Instr.annr [[]]).wf = false := by decide
theorem test_wf_rejects_a_long_record : (Instr.disc [List.replicate 87 '1']).wf = false := by decide
theorem test_wf_takes_the_longest_record : (Instr.disc [List.replicate 86 '1']).wf = true := by decide
theorem test_wf_rejects_an_empty_buffer : (Instr.overrun []).wf = false := by decide
theorem test_wf_rejects_a_buffer_without_colon : (Instr.overrun "STAT*12".toList).wf = false := by decide
theorem test_wf_rejects_a_buffer_with_a_second_colon : (Instr.overrun ":ST:".toList).wf = false := by decide
theorem test_wf_rejects_a_long_buffer : (Instr.overrun (':' :: List.replicate 95 'A')).wf = false := by decide
theorem test_wf_rejects_a_short_overlong_record : (Instr.recordNotTaken ":STAT".toList true false).wf = false := by
  decide
theorem test_wf_rejects_a_short_word : (Instr.wordCompletion 0 (some "2026".toList)).wf = false := by decide
theorem test_wf_rejects_a_word_with_a_hash :
    (Instr.wordCompletion 0 (some "#20260717120000".toList)).wf = false := by decide
theorem test_wf_rejects_a_wide_character :
    (Instr.controlCharacterReceived { code := Char.ofNat 256, framingError := false }).wf = false := by decide
theorem test_wf_rejects_a_wide_word_character :
    (Instr.wordCharacterReceived 0 { code := Char.ofNat 256, framingError := false }).wf = false := by decide

/-! ### Nothing spells a command -/

theorem test_no_word_spells_a_command : decodeTableWord 8 0 = none ∧ fresh.withFetchWord 8 0 = fresh := by decide

/-! ### The machine and reset -/

theorem test_met_EmptyQueueIsOneTick :
    (fresh.pending = [] ∧ fresh.resetHeld = false ∧ fresh.segmentDue = false ∧ fresh.tickEvents = []) ∧
    ((shaping .idle).pending = [] ∧ (shaping .idle).segmentDue = true) ∧
    (held.pending = [] ∧ held.resetHeld = true) := by decide

/-- R194: a strobe is low in the tick of the change, high in the next two, and low again. -/
theorem test_strobe_is_high_in_the_two_ticks_after_the_change :
    [0, 1, 2, 3, 4].map (fun n => (fresh.reach n).strobe .two) = [.low, .high, .high, .low, .low] := by decide

/-- A reply with one character left, for one more tick. -/
def lastTick (b : Bool) : State :=
  { fresh with port := { fresh.port with reply := some { toSend := ['A'], ticksLeft := 1, resets := b } } }

/-- A receiver that waits for the end of a stop bit, at the tick before it. -/
def ending (bits : List Bool) : Receiver := { level := .high, reception := some { ticks := 10419, bits := bits } }

/-- ':' on its way into the control port, and '#' into the word receiver of reference 3. -/
def colonIn : State :=
  { fresh with
    receivers :=
      { fresh.receivers with control := ending [false, true, false, true, true, true, false, false, true] } }

def hashIn : State :=
  { fresh with
    receivers :=
      { fresh.receivers with
        words := fresh.receivers.words.set 2 (ending [true, true, false, false, false, true, false, false, true]) } }

theorem test_met_tick_events :
    (State.at fresh 9999999).tickEvents = [.epoch] ∧ (State.at fresh 9999998).tickEvents = [] ∧
    (State.at fresh 9999999).resetEnds = false ∧
    colonIn.tickEvents = [.controlChar { code := ':', framingError := false }] ∧
    hashIn.tickEvents = [.wordChar 2 { code := '#', framingError := false }] ∧
    (lastTick false).tickEvents = [.charSent] ∧ (lastTick false).resetEnds = false ∧
    (State.at (lastTick true) 9999999).resetEnds = true ∧ (State.at (lastTick true) 9999999).segmentDue = false ∧
    (State.at { colonIn with port := (lastTick false).port } 9999999).tickEvents =
      [.charSent, .controlChar { code := ':', framingError := false }, .epoch] := by decide

/-- What single-event ticks leave. -/
theorem test_ticks_bring_characters :
    (match step colonIn with | .next t => some (t.port.receive, t.port.buffer) | _ => none) =
      some (.assembling, [':']) ∧
    (match step hashIn with | .next t => some ((t.ref 2).assembly) | _ => none) = some (some []) ∧
    (match step (lastTick false) with | .next t => some (t.port.reply) | _ => none) = some none ∧
    (match step (lastTick true) with | .next t => some (t.notices.entries.map (fun e => e.data)) | _ => none) =
      some [.reset .command .b9600] := by decide

theorem test_met_ResetReleaseGivesTheResetValues :
    held.resetHeld = true ∧
    (after (.resetReleased .high .low) held).map (fun t => (t.port.speed, t.notices.entries.length)) =
      some (.b38400, 1) := by decide

theorem test_met_ResetAssertedHoldsThePart :
    held.resetHeld = true ∧ after (.stat []) held = some held ∧ after .localEpoch held = some held ∧
    (after .resetAsserted { tracking 77 with port := busy.port }).map (fun t => (t.counter, t.port.reply, t.attn)) =
      some ({ phase := 0, length := 10000000 }, none, .low) ∧
    (after (.referenceEdge 0 .rising) held).map (fun t => (t.pins.refe[0], (t.ref 0).last)) = some (.high, none) ∧
    (after (.monitorTransition .falling) held).map (fun t => t.pins.mon) = some .low ∧
    (after (.chainReady .two .high) held).map (fun t => (t.pins.rdy.two, t.chains.ready.two)) = some (.high, .low) := by
  decide

theorem test_met_RsetRepliesBeforeItResets :
    replyTo (.rset []) fresh = some "=RSET OK*34\r\n".toList ∧
    after (.rset [['1']]) fresh = some (fresh.replied .rset .range []) ∧
    (∃ r, busy.port.reply = some r ∧ r.resets = false) ∧ (∃ r, resetting.port.reply = some r ∧ r.resets = true) ∧
    (after (.rsetResetTaken .low .low) resetting).map (fun t => (t.notices, t.port)) =
      some (({ entries := [{ data := .reset .command .b9600, count := 1, label := none }], mask := [] } : NoticeList),
        Port.reset .b9600) :=
  ⟨by decide, by decide, ⟨_, rfl, rfl⟩, ⟨_, rfl, rfl⟩, by decide⟩

/-! ### The control port -/

theorem test_met_PortTakesCharacters :
    fresh.resetHeld = false ∧ fresh.port.receive = .hunting ∧ (assembling [':']).port.receive = .assembling ∧
    (assembling (List.replicate 94 'A')).port.buffer.length < 95 ∧
    95 ≤ (assembling (List.replicate 95 'A')).port.buffer.length ∧
    (after (.controlCharacterReceived { code := '~', framingError := false }) (assembling (List.replicate 95 'A'))).map
      (fun t => (t.port.buffer.length, t.port.overlong)) = some (95, true) ∧
    (after (.controlCharacterReceived { code := Char.ofNat 127, framingError := false }) (assembling [':'])).map
      (fun t => (t.port.buffer, t.port.badChar)) = some ([':'], true) := by decide

/-- What a character makes of a record under assembly: the buffer and the two marks. -/
def assembled (buffer : Text) (c : Char) (e : Bool) : Option (Text × Bool × Bool) :=
  (after (.controlCharacterReceived { code := c, framingError := e }) (assembling buffer)).map
    (fun t => (t.port.buffer, t.port.overlong, t.port.badChar))

theorem test_port_characters_at_their_bounds :
    assembled [':'] (Char.ofNat 31) false = some ([':'], false, true) ∧
    assembled [':'] (Char.ofNat 32) false = some ([':', ' '], false, false) ∧
    assembled [':'] (Char.ofNat 126) false = some ([':', '~'], false, false) ∧
    assembled [':'] ':' true = some ([':'], false, true) ∧ assembled [':'] '\r' true = some ([':'], false, true) ∧
    assembled [':'] 'A' true = some ([':'], false, true) ∧
    after (.controlCharacterReceived { code := ':', framingError := true }) fresh = some fresh := by decide

theorem test_met_RestartStartsANewRecord :
    (assembling ":ST".toList).resetHeld = false ∧ (assembling ":ST".toList).port.receive = .assembling ∧
    (after .restart (assembling ":ST".toList)).map (fun t => t.port.buffer) = some [':'] := by decide

theorem test_met_CompletedRecordIsCheckedOrOverrun :
    '*' ∉ ":STAT".toList.drop 1 ∧ '*' ∉ "STAT".toList ∧ readCheck "1".toList = none ∧ bodyFits " X".toList = false ∧
    bodyFits "STAT ".toList = false ∧ readCheck "12".toList = some 18 ∧ bodyFits "STAT".toList = true ∧
    "STAT".toList.foldl (fun x c => x ^^^ c.toNat) 0 = 18 ∧
    replyTo (.recordNotTaken ":STAT*13".toList false false) fresh = some (replyText "????".toList "BADCHECK".toList []) ∧
    replyTo (.recordNotTaken ":STAX*1E".toList false false) fresh = some (replyText "????".toList "UNKNOWN".toList []) ∧
    replyTo (.recordNotTaken ":STAT*1".toList false false) fresh = some (replyText "????".toList "BADFORM".toList []) := by
  decide

theorem test_no_word_is_STAX (c : Command) : commandWord c ≠ "STAX".toList.takeWhile (fun x => x != ' ') := by
  cases c <;> decide

theorem test_met_overrun :
    busy.resetHeld = false ∧ busy.port.reply ≠ none ∧ '*' ∉ "NOTE".toList ∧
    1 ≤ ("N".toList.takeWhile (fun x => x != ' ')).length ∧ ("NOTE".toList.takeWhile (fun x => x != ' ')).length ≤ 4 ∧
    (after (.overrun ":NOTE*00".toList) busy).map (fun t => t.notices.entries.map (fun e => e.data)) =
      some [.reset .pin .b9600, .link (.overrun (some "NOTE".toList))] := by decide

/-- R185: a record without '*', and one whose word has no character or more than four, name no word. -/
theorem test_overrun_without_a_word :
    '*' ∉ ":NOTE".toList ∧ ("NOTES".toList.takeWhile (fun x => x != ' ')).length = 5 ∧
    (" X".toList.takeWhile (fun x => x != ' ')).length = 0 ∧
    added (.overrun ":NOTE".toList) busy = some [.link (.overrun none)] ∧
    added (.overrun ":NOTES*00".toList) busy = some [.link (.overrun none)] ∧
    added (.overrun ": X*00".toList) busy = some [.link (.overrun none)] := by decide

theorem test_met_RecordOnTheLineIsTheCommand :
    fieldsWf [] = true ∧ fieldsWf [List.replicate 86 '1'] = true ∧ fieldsWf [[], ['1']] = true ∧
    fresh.resetHeld = false ∧ fresh.port.receive = .hunting ∧
    commandRecord .stat [] = ":STAT*12".toList := by decide

theorem test_a_received_record_is_the_command :
    (match execAll (receptions ":SETT 20260717,101112*".toList) fresh with
      | .next t => some t.port.buffer.length
      | _ => none) = some 22 ∧
    (match execAll (receptions (commandRecord .sett ["20260717".toList, "101112".toList] ++ ['\r'])) fresh with
      | .next t => some t
      | _ => none) = after (.sett ["20260717".toList, "101112".toList]) fresh := by decide

/-- R195: a line fed tick by tick at 115,200 baud gives the character at the tick after its last, not before. -/
def fed (c : Char) (e : Bool) (last : Level) : List RxChar × Option RxChar × Receiver :=
  let y := Receiver.reset.feed 87 (frameLevels 87 c e)
  let z := y.1.sample 87 last
  (y.2, z.2, z.1)

set_option maxRecDepth 20000 in
theorem test_met_LineCharacterIsReceived :
    fed (Char.ofNat 255) false .high = ([], some { code := Char.ofNat 255, framingError := false }, Receiver.reset) ∧
    fed 'A' false .low =
      ([], some { code := 'A', framingError := false }, { level := .low, reception := some { ticks := 0, bits := [] } }) ∧
    fed (Char.ofNat 0) true .high = ([], some { code := Char.ofNat 0, framingError := true }, Receiver.reset) ∧
    fed ':' true .low = ([], some { code := ':', framingError := true }, { level := .low, reception := none }) := by
  decide

/-- A reply of two characters with the ticks left to the first. -/
def replying (ticks : Nat) : State :=
  { fresh with port := { fresh.port with reply := some { toSend := ['A', 'B'], ticksLeft := ticks, resets := false } } }

theorem test_met_ReplyIsSentTickByTick :
    (replying 10420).pending = [] ∧ (replying 10420).resetHeld = false ∧ (replying 10420).segmentDue = false ∧
    (replying 1).controlSample.2 = none ∧ (∀ r, ((replying 1).wordSample r).2 = none) ∧
    (replying 1).counter.phase + 1 < (replying 1).counter.length ∧
    (replying 10420).ctx = .low ∧ (replying (10420 - 1041)).ctx = .low ∧ (replying (10420 - 1042)).ctx = .high ∧
    (replying (10420 - 2 * 1042)).ctx = .low ∧ (replying (10420 - 7 * 1042)).ctx = .high ∧
    (replying (10420 - 8 * 1042)).ctx = .low ∧ (replying 1042).ctx = .high ∧ (replying 1).ctx = .high ∧
    (match step (replying 2) with | .next t => some (t.replyTicks, t.port) | _ => none) =
      some (10421, (replying 1).port) ∧
    (match step (replying 1) with | .next t => some (t.replyTicks, t.port.reply) | _ => none) =
      some (10420, some { toSend := ['B'], ticksLeft := 10420, resets := false }) := by decide

/-! ### Notices -/

/-- A list with one entry of count 255. -/
def fullList : NoticeList :=
  { entries := [{ data := .link .restart, count := 255, label := none }, { data := .reset .pin .b9600, count := 1, label := none }],
    mask := [.step] }

theorem test_met_ListTakesAnOccurrence :
    (NoticeData.step 0 0 0 0 none).kind ∈ fullList.mask ∧
    (NoticeData.timeEnd noon).kind ∉ fullList.mask ∧ (∀ e ∈ fullList.entries, e.data.kind ≠ (NoticeData.timeEnd noon).kind) ∧
    fullList.entries =
      [] ++ { data := .link .restart, count := 255, label := none } :: [{ data := .reset .pin .b9600, count := 1, label := none }] ∧
    ((fullList.post (.link (.overrun none)) (some noon)).entries.map (fun e => (e.count, e.label)) =
      [(255, some noon), (1, none)]) := by decide

theorem test_met_NoticeListStaysLawful : fullList.lawful ∧ ∃ t, step { fresh with notices := fullList } = .next t :=
  ⟨⟨by unfold NoticeList.distinct; decide, by unfold NoticeList.counted; decide, by unfold NoticeList.maskFits; decide⟩,
    _, rfl⟩

theorem test_met_NoteRemovesTheOldestEntry :
    ({ fresh with notices := { entries := [], mask := [] } } : State).notices.entries = [] ∧
    replyTo (.note []) fresh = some (replyText "NOTE".toList "OK".toList
      ["RESET".toList, "1".toList, "UNSET".toList, "0".toList, "PIN".toList, "9600".toList]) ∧
    (after (.note []) fresh).map (fun t => t.attn) = some .low ∧
    after (.note [['1']]) fresh = some (fresh.replied .note .range []) := by decide

theorem test_met_NmskSetsTheMask :
    NoticeKind.reset ∉ [NoticeKind.link, .refState, .link] ∧ readWithin 1 15 "16".toList = none ∧
    readWithin 1 15 "0".toList = none ∧
    (after (.nmsk ["15".toList, "1".toList, "15".toList]) fresh).map (fun t => t.notices.mask) = some [.refState, .link] ∧
    after (.nmsk ["NONE".toList, "1".toList]) fresh = some (fresh.replied .nmsk .range []) ∧
    after (.nmsk ["16".toList]) fresh = some (fresh.replied .nmsk .range []) := by decide

/-! ### Reading commands -/

set_option maxRecDepth 20000 in
theorem test_met_StatAndRefsReport :
    replyTo (.stat []) fresh = some (replyText "STAT".toList "OK".toList
      ["SUMMARY".toList, "UNSET".toList, "UNSET".toList, "FREE".toList, "NONE".toList, "NONE".toList, "QUIET".toList,
       "INHIBIT".toList, "1".toList, "STEADY".toList, "1".toList, "NO".toList]) ∧
    replyTo (.refs [['1']]) fresh = some (replyText "REFS".toList "OK".toList
      ["1".toList, "1R00000FN1".toList, "L0000000".toList, "--------".toList, "N".toList, "NONE".toList]) := by decide

set_option maxRecDepth 20000 in
theorem test_stat_parts :
    replyTo (.stat ["TIME".toList]) (clock noon) = some (replyText "STAT".toList "OK".toList
      ["TIME".toList, "SET".toList, "20260717120000".toList, "9694".toList, "5".toList, "STANDARD".toList, "+0".toList,
       "+0".toList, "20260717120000".toList, "5".toList, "NONE".toList]) ∧
    fresh.pendingField = "NONE".toList ∧
    (State.loading fresh { source := .host, target := noon }).pendingField = "HOST".toList ∧
    (State.loading fresh { source := .reference 2, target := noon }).pendingField = "3".toList ∧
    replyTo (.stat ["DISC".toList]) fresh = some (replyText "STAT".toList "OK".toList
      ["DISC".toList, "AUTO_REVERT".toList, [], "NONE".toList, "FREE".toList, "0".toList, "0".toList, "0".toList,
       "CLEAR".toList, "NONE".toList, []]) ∧
    replyTo (.stat ["LIST".toList]) fresh = some (replyText "STAT".toList "OK".toList
      ["LIST".toList, "1".toList, "16".toList]) := by decide

theorem test_no_part_is_ALL (p : StatPart) : statPartText p ≠ "ALL".toList := by cases p <;> decide

theorem test_no_monitor_part_is_ALL (p : MonPart) : monPartText p ≠ "ALL".toList := by cases p <;> decide

set_option maxRecDepth 20000 in
theorem test_met_StoresAreReported :
    fresh.slot 7 = none ∧
    (State.slotIs fresh 7 .armed (.zone noon.minute .summer 60)).slot 7 =
      some { state := .armed, content := .zone noon.minute .summer 60, carried := false } ∧
    (State.slotIs fresh 0 .announcing (.leap 9678 .insert 1440)).slot 0 =
      some { state := .announcing, content := .leap 9678 .insert 1440, carried := false } ∧
    (State.slotIs fresh 3 (.done .ended) (.service 1440 1441 65535)).slot 3 =
      some { state := .done .ended, content := .service 1440 1441 65535, carried := false } ∧
    fresh.nextRecord = none ∧ fresh.keyer.air = none ∧
    ({ fresh with nextRecord := some record } : State).nextRecord = some record ∧
    (fresh.setAir (some record)).keyer.air = some record ∧
    replyTo (.annr ["1".toList]) (State.slotIs fresh 0 .announcing (.leap 9678 .insert 1440)) =
      some (replyText "ANNR".toList "OK".toList
        ["1".toList, "ANNOUNCING".toList, "LEAP".toList, "20260701".toList, "9678".toList, "202607012359".toList,
         "13937759".toList, "INSERT".toList, "1440".toList, []]) := by decide

/-- A monitor record. -/
def heard : MonRecord :=
  { minute := noon.minute, length := 60, source := .normal, mode := .full, verdict := .good, mismatches := 0,
    observed := List.replicate 60 .none, decoded := none }

theorem test_met_monitor_record_is_read :
    fresh.monitor.record = none ∧
    (after (.monr []) { fresh with monitor := { fresh.monitor with record := some heard, isNew := true } }).map
      (fun t => (t.monitor.isNew, t.monitor.record)) = some (false, some heard) := by decide

/-! ### Setting commands -/

set_option maxRecDepth 20000 in
theorem test_met_SettAndZoncSetTimeAndZone :
    ({ year := 2000, month := 1, day := 2 } : Date).valid = true ∧ dayOfDate { year := 2000, month := 1, day := 2 } = 1 ∧
    ({ year := 2199, month := 12, day := 30 } : Date).valid = true ∧
    dayOfDate { year := 2199, month := 12, day := 30 } = 73047 ∧
    ({ year := 2000, month := 1, day := 1 } : Date).valid = true ∧ dayOfDate { year := 2000, month := 1, day := 1 } < 1 ∧
    ({ year := 2199, month := 12, day := 31 } : Date).valid = true ∧
    73047 < dayOfDate { year := 2199, month := 12, day := 31 } ∧
    (State.inDisc fresh .holdover).disc.state = .holdover ∧ fresh.disc.state = .free ∧
    (after (.sett ["20000102".toList, "235959".toList]) fresh).map (fun t => t.time.pending) =
      some (some { source := .host, target := { minute := 2879, second := 59 } }) ∧
    after (.sett ["20260717".toList, "235960".toList]) fresh = some (fresh.replied .sett .range []) := by decide

theorem test_met_zone_settings :
    fresh.time.zone = .standard ∧ (-720 : Int) % 15 = 0 ∧ (840 : Int) % 15 = 0 ∧
    (after (.zonc ["-720".toList, "+840".toList, "SUMMER".toList]) fresh).map
      (fun t => (t.time.standardOffset, t.time.summerOffset, t.time.zone)) = some (-720, 840, .summer) ∧
    (State.slotIs fresh 0 .armed (.zone noon.minute .summer 60)).slot 0 =
      some { state := .armed, content := .zone noon.minute .summer 60, carried := false } ∧
    after (.zonc [[], [], "SUMMER".toList]) (State.slotIs fresh 0 .armed (.zone noon.minute .summer 60)) =
      some ((State.slotIs fresh 0 .armed (.zone noon.minute .summer 60)).replied .zonc .order []) ∧
    after (.zonc ["-735".toList]) fresh = some (fresh.replied .zonc .range []) := by decide

theorem test_met_RefcSetsAReference :
    (after (.refc [['2'], [], "FALLING".toList, "50000".toList, "DS".toList, "EXTENDED".toList]) fresh).map
      (fun t => ((t.ref 1).polarity, (t.ref 1).delay, (t.ref 1).mask, (t.ref 1).lossMode)) =
      some (.falling, 50000, { sec := true, min := false, hour := false, date := true }, .extended) ∧
    after (.refc [['2'], [], [], "50001".toList]) fresh = some (fresh.replied .refc .range []) ∧
    after (.refc [['2'], [], [], [], "MHD".toList]) fresh = some (fresh.replied .refc .range []) := by decide

theorem test_met_reference_enables :
    ((tracking 0).ref 0).state ≠ .off ∧ ((State.refIn fresh 0 .off).ref 0).state = .off ∧
    (after (.refc [['1'], "OFF".toList]) (tracking 0)).map
      (fun t => ((t.ref 0).state, t.selector.selected, t.disc.state, t.disc.holdoverRef)) =
      some (.off, none, .holdover, some 0) := by decide

/-- References 1 and 2 GOOD, reference 1 selected in TRACK. -/
def twoGood : State := State.refIn (tracking 0) 1 .good

/-- What a priority given to reference 2 leaves. -/
def prioritised (s : State) (p : Char) : Option (Nat × Option RefNo × Bool) :=
  (after (.refc [['2'], [], [], [], [], [], [p]]) s).map
    (fun t => ((t.ref 1).priority, t.selector.selected, t.disc.firstAwaited))

theorem test_met_reference_priority :
    (twoGood.ref 1).priority = 2 ∧ twoGood.selector.mode = .autoRevert ∧
    prioritised twoGood '1' = some (1, some 0, false) ∧ prioritised twoGood '3' = some (3, some 0, false) ∧
    prioritised (twoGood.setRef 0 { twoGood.ref 0 with priority := 2 }) '1' = some (1, some 1, true) ∧
    prioritised { twoGood.setRef 0 { twoGood.ref 0 with priority := 2 } with selector := { mode := .autoHold, selected := some 0 } } '1' =
      some (1, some 0, false) ∧
    after (.refc [['2'], [], [], [], [], [], ['0']]) twoGood = some (twoGood.replied .refc .range []) ∧
    after (.refc [['2'], [], [], [], [], [], ['4']]) twoGood = some (twoGood.replied .refc .range []) ∧
    added (.refc [['2'], [], [], [], [], [], ['1']]) (twoGood.setRef 0 { twoGood.ref 0 with priority := 2 }) =
      some [.select (some 0) (some 1) .autoRevert .priority] := by decide

theorem test_met_SelcSelectsByItsMode :
    (tracking 0).selector.selected = some 0 ∧ ((tracking 0).ref 0).state = .good ∧ ((tracking 0).ref 1).state ≠ .good ∧
    (after (.selc ["FORCE".toList, "2".toList]) (tracking 0)).map (fun t => (t.selector.mode, t.selector.selected)) =
      some (.force 1, none) := by decide

/-- The selection and the discipline state after a SELC, with the entry-second and the first-capture marks. -/
def selected (f : List Text) (s : State) : Option (Option RefNo × DiscState × Bool × Bool) :=
  (after (.selc f) s).map (fun t => (t.selector.selected, t.disc.state, t.disc.entrySecond, t.disc.firstAwaited))

/-- References 1 and 2 GOOD in a discipline state, with this reference selected. -/
def choosing (d : DiscState) (r : Option RefNo) : State :=
  { State.inDisc twoGood d with selector := { mode := .autoRevert, selected := r } }

/-- The fields of a SELC with mode FORCE. -/
def forcing (r : String) : List Text := ["FORCE".toList, r.toList]

/-- R68: a lost or changed selection in each discipline state. -/
theorem test_selection_changes :
    [(forcing "3", choosing .track (some 0)), (forcing "2", choosing .track (some 0)),
     (forcing "3", choosing .acquire (some 0)), (forcing "2", choosing .acquire (some 0)),
     (["AUTO_REVERT".toList], choosing .free none), (forcing "3", choosing .free (some 0)),
     (["AUTO_REVERT".toList], choosing .holdover none), (forcing "3", choosing .holdover (some 0)),
     (["AUTO_HOLD".toList], choosing .track (some 1))].map (fun x => selected x.1 x.2) =
      [some (none, .holdover, false, false), some (some 1, .track, false, true),
       some (none, .free, false, false), some (some 1, .acquire, false, false),
       some (some 0, .acquire, true, false), some (none, .free, false, false),
       some (some 0, .holdover, false, true), some (none, .holdover, false, false),
       some (some 1, .track, false, false)] := by decide

/-- R62, R83: the notices of these changes. -/
theorem test_selection_notices :
    added (.selc (forcing "3")) (choosing .track (some 0)) =
      some [.select (some 0) none (.force 2) .command, .discState .track .holdover none .selectionLost] ∧
    added (.selc (forcing "2")) (choosing .track (some 0)) = some [.select (some 0) (some 1) (.force 1) .command] ∧
    added (.selc (forcing "3")) (choosing .acquire (some 0)) =
      some [.select (some 0) none (.force 2) .command, .discState .acquire .free none .selectionLost] ∧
    added (.selc ["AUTO_REVERT".toList]) (choosing .free none) =
      some [.select none (some 0) .autoRevert .command, .discState .free .acquire (some 0) .selected] ∧
    added (.selc (forcing "3")) (choosing .free (some 0)) = some [.select (some 0) none (.force 2) .command] ∧
    added (.selc ["AUTO_REVERT".toList]) (choosing .holdover none) = some [.select none (some 0) .autoRevert .command] ∧
    added (.selc ["AUTO_HOLD".toList]) (choosing .track (some 1)) = some [] := by decide

/-- R57, R62: a disable of the selected reference lists REF_STATE, SELECT with cause STATE and DISC_STATE. -/
theorem test_selection_lost_by_a_disable :
    added (.refc [['1'], "OFF".toList]) (tracking 0) =
      some [.refState 0 .good .off .disabled, .select (some 0) none .autoRevert .state,
        .discState .track .holdover none .selectionLost] ∧
    (after (.refc [['1'], "OFF".toList]) (tracking 0)).map (fun t => (t.disc.state, t.disc.holdoverRef)) =
      some (.holdover, some 0) ∧
    after (.selc ["FORCE".toList, ['0']]) fresh = some (fresh.replied .selc .range []) ∧
    after (.selc ["FORCE".toList, ['4']]) fresh = some (fresh.replied .selc .range []) ∧
    after (.selc [[]]) fresh = some (fresh.replied .selc .range []) := by decide

/-- The discipline settings at the tops of their ranges. -/
def topSettings : DiscSettings :=
  { j := 1000, w := 1000, b := 999, s := 100000, h1 := 86400, h2 := 604800, expiry := .continue }

theorem test_met_SettingsAreStagedWhenTheyFit :
    topSettings.w ≤ topSettings.j ∧ topSettings.b < topSettings.w ∧ topSettings.h1 ≤ topSettings.h2 ∧
    ({ topSettings with b := 1, w := 1 } : DiscSettings).w ≤ ({ topSettings with b := 1, w := 1 } : DiscSettings).b ∧
    fresh.disc.staged = none ∧
    (after (.disc topSettings.texts) fresh).map (fun t => (t.disc.staged, t.disc.settings)) =
      some (some topSettings, DiscSettings.reset) ∧
    after (.disc [[], "101".toList]) fresh = some (fresh.replied .disc .range []) := by decide

theorem test_met_keyer_and_monitor_settings :
    (fresh.keyer.staged.getD fresh.keyer.active).ordered = true ∧ fresh.keyer.staged = none ∧ fresh.monitor.staged = none ∧
    (after (.keyc ["50".toList, "12500".toList]) fresh).map (fun t => t.keyer.staged) =
      some (some { Envelope.reset with depth := 50, segment := 12500 }) ∧
    (after (.monc ["OFF".toList, "200000".toList, "50000".toList]) fresh).map (fun t => t.monitor.staged) =
      some (some { enable := false, tolerance := 200000, delay := 50000 }) ∧
    after (.keyc ["501".toList]) fresh = some (fresh.replied .keyc .range []) ∧
    after (.monc [[], "999".toList]) fresh = some (fresh.replied .monc .range []) := by decide

theorem test_met_MntcJudgesTheRequest :
    fresh.chains.maintenance = .inhibit ∧
    (State.withChains fresh (fun x => { x with maintenance := .loop })).chains.maintenance ≠ .inhibit ∧
    (after (.mntc ["LOOP".toList]) fresh).map (fun t => t.chains.pendingMaintenance) =
      some (some { mode := .loop, due := .nextBoundary }) := by decide

theorem test_no_mode_is_OFF (m : MaintMode) : maintText m ≠ "OFF".toList := by cases m <;> decide

/-- Chain 2 reports ready. -/
def readyTwo : State := State.withChains fresh (fun x => { x with ready := { one := .low, two := .high } })

/-- A changeover to chain 2 is under preparation. -/
def preparing (o : Origin) : State := State.withChains readyTwo (fun x => { x with changeover := .preparing .two o })

theorem test_met_OutcAndChainReadyActAtOnce :
    readyTwo.chains.changeover = .steady ∧ readyTwo.chains.ready.get readyTwo.chains.onAir.other = .high ∧
    (preparing .auto).chains.changeover ≠ .steady ∧ fresh.chains.ready.get fresh.chains.onAir.other = .low ∧
    after (.outc [[], ['2']]) (preparing .auto) = some ((preparing .auto).replied .outc .busy []) ∧
    after (.outc [[], ['2']]) fresh = some (fresh.replied .outc .notready []) ∧
    (after (.outc ["COLD".toList, ['2'], "SPENT".toList, "15".toList]) readyTwo).map (fun t => t.chains.changeover) =
      some (.preparing .two .manual) := by decide

/-! ### The announcement table -/

/-- The fields of an ANNW of a ZONE slot 1 to SUMMER. -/
def zoneFields (minute : String) (zone : String) : List Text :=
  [['1'], "ZONE".toList, minute.toList, zone.toList, "60".toList]

/-- Slot 2 active with the zone change of 12:10. -/
def withZone : State := State.slotIs (clock noon) 1 .armed (.zone (noon.minute + 10) .summer 60)

theorem test_met_AnnwChecksThenWrites :
    fresh.time.label = none ∧ (clock noon).time.label = some noon ∧
    after (.annw (zoneFields "202607171203" "SUMMER")) fresh = some (fresh.replied .annw .notime []) ∧
    after (.annw (zoneFields "202607171202" "SUMMER")) (clock noon) = some ((clock noon).replied .annw .late []) ∧
    (after (.annw (zoneFields "202607171203" "SUMMER")) (clock noon)).map (fun t => t.slot 0) =
      some (some { state := .armed, content := .zone (noon.minute + 3) .summer 60, carried := false }) ∧
    after (.annw (zoneFields "202607171203" "WINTER")) (clock noon) = some ((clock noon).replied .annw .range []) ∧
    after (.annw (zoneFields "202607171203" "STANDARD")) (clock noon) = some ((clock noon).replied .annw .order []) ∧
    after (.annw (zoneFields "202607171210" "SUMMER")) withZone = some (withZone.replied .annw .conflict []) ∧
    after (.annw [['1'], "LEAP".toList, "20260730".toList, "INSERT".toList, "60".toList]) (clock noon) =
      some ((clock noon).replied .annw .badday []) := by decide

theorem test_met_AnnwCommitted :
    (State.slotIs (clock noon) 0 .committed (.zone (noon.minute + 1) .summer 60)).slot 0 =
      some { state := .committed, content := .zone (noon.minute + 1) .summer 60, carried := false } ∧
    readContent (zoneFields "202607171203" "SUMMER") = some (.zone (noon.minute + 3) .summer 60) ∧
    (SlotContent.leap 9708 .insert 60).badDay = false ∧ (SlotContent.leap 9707 .insert 60).badDay = true ∧
    conflicts withZone.slots 0 (.zone (noon.minute + 10) .summer 60) = true ∧
    conflicts withZone.slots 0 (.zone (noon.minute + 20) .standard 60) = false ∧
    orderApplies withZone.slots 0 (.zone (noon.minute + 20) .standard 60) = true ∧
    orderHolds withZone.slots .standard 0 (.zone (noon.minute + 20) .standard 60) = true ∧
    orderHolds withZone.slots .standard 0 (.zone (noon.minute + 20) .summer 60) = false ∧
    orderApplies withZone.slots 0 (.service 1440 1441 7) = false := by decide

theorem test_met_AnncFollowsTheSlotsState :
    (clock noon).slot 0 = none ∧ withZone.slot 1 = some { state := .armed, content := .zone (noon.minute + 10) .summer 60, carried := false } ∧
    after (.annc [['2']]) withZone = some ((withZone.setSlot 1 none).replied .annc .ok [['2'], "EMPTY".toList]) ∧
    after (.annc [['2']]) (State.slotIs withZone 2 .announcing (.zone (noon.minute + 20) .standard 60)) =
      some ((State.slotIs withZone 2 .announcing (.zone (noon.minute + 20) .standard 60)).replied .annc .order []) ∧
    after (.annc [['3']]) (State.slotIs withZone 2 .committed (.zone (noon.minute + 20) .standard 60)) =
      some ((State.slotIs withZone 2 .committed (.zone (noon.minute + 20) .standard 60)).replied .annc .late []) ∧
    (after (.annc [['3']]) (State.slotIs withZone 2 (.done .missed) (.leap 9707 .insert 60))).map (fun t => t.slot 2) =
      some none := by decide

/-- One move of a slot at the boundary that begins a minute. -/
def moved (k : SlotNo) (m : Nat) (s : State) : Option Slot := (State.slotAtBoundary m (some noon) s k).slot k

theorem test_met_SlotsMoveAtABoundary :
    moved 1 (noon.minute + 10) withZone = some { state := .done .applied, content := .zone (noon.minute + 10) .summer 60, carried := false } ∧
    (State.slotAtBoundary (noon.minute + 10) (some noon) withZone 1).time.zone = .summer ∧
    moved 1 (noon.minute + 9) withZone = withZone.slot 1 ∧
    moved 0 (9707 * 1440 + 1439) (State.slotIs fresh 0 .announcing (.leap 9707 .insert 60)) =
      some { state := .committed, content := .leap 9707 .insert 60, carried := false } ∧
    moved 0 (9707 * 1440 + 1440) (State.slotIs fresh 0 .committed (.leap 9707 .insert 60)) =
      some { state := .done .applied, content := .leap 9707 .insert 60, carried := false } ∧
    moved 0 (9707 * 1440 + 1439) (State.slotIs fresh 0 .committed (.leap 9707 .insert 60)) =
      some { state := .committed, content := .leap 9707 .insert 60, carried := false } ∧
    moved 0 (9707 * 1440 + 1440) (State.slotIs fresh 0 .armed (.leap 9707 .insert 60)) =
      some { state := .armed, content := .leap 9707 .insert 60, carried := false } ∧
    moved 0 (9707 * 1440 + 1440) (State.slotIs fresh 0 .announcing (.leap 9707 .insert 60)) =
      some { state := .announcing, content := .leap 9707 .insert 60, carried := false } ∧
    (∀ n y z' w', withZone.slot n = some y → y.state.active = true → y.content = .zone (noon.minute + 10) z' w' → n = 1) := by
  refine ⟨by decide, by decide, by decide, by decide, by decide, by decide, by decide, by decide, ?_⟩
  intro n y z w h _ _
  have : ∀ n : SlotNo, withZone.slot n ≠ none → n = 1 := by decide
  exact this n (by rw [h]; exact fun h => nomatch h)

/-- Where a slot moves at the composition for minute m. -/
def composed (st : SlotState) (c : SlotContent) (m : Nat) : Option SlotState :=
  Slot.atComposition { state := st, content := c, carried := false } m (m + 1)

theorem test_met_SlotsMoveAtAComposition :
    composed .armed (.zone 2000 .summer 10) 1999 = some .committed ∧
    composed .armed (.zone 2000 .summer 10) 1998 = some .announcing ∧
    composed .armed (.zone 2000 .summer 10) 1989 = some .announcing ∧
    composed .armed (.zone 2000 .summer 10) 1988 = none ∧
    composed .announcing (.zone 2000 .summer 10) 1999 = some .committed ∧
    composed .announcing (.zone 2000 .summer 10) 1998 = none ∧
    composed .committed (.zone 2000 .summer 10) 1999 = none ∧
    composed .armed (.leap 1 .insert 10) 2879 = some .committed ∧
    composed .armed (.leap 1 .insert 10) 2878 = some .announcing ∧
    composed .armed (.leap 1 .insert 10) 2868 = some .announcing ∧ composed .armed (.leap 1 .insert 10) 2867 = none ∧
    composed .announcing (.leap 1 .delete 10) 2879 = some .committed ∧
    composed .announcing (.leap 1 .delete 10) 2878 = none ∧ composed .committed (.leap 1 .delete 10) 2879 = none ∧
    composed .armed (.service 2000 2002 7) 1998 = none ∧ composed .armed (.service 2000 2002 7) 1999 = some .announcing ∧
    composed .announcing (.service 2000 2002 7) 2000 = none ∧
    composed .announcing (.service 2000 2002 7) 2001 = some (.done .ended) ∧
    composed .armed (.service 2000 2002 7) 2001 = some (.done .ended) ∧
    composed (.done .ended) (.service 2000 2002 7) 1999 = none := by decide

/-- R101: of two SERVICE slots that qualify, the lower-numbered one is carried, and the other one not. -/
def services : State :=
  State.slotIs (State.slotIs fresh 2 .announcing (.service 2000 2002 7)) 5 .announcing (.service 2000 2002 8)

theorem test_the_lowest_service_is_carried :
    ((services.setCarried 2000).slot 2).map (fun x => x.carried) = some true ∧
    ((services.setCarried 2000).slot 5).map (fun x => x.carried) = some false ∧
    ((services.setCarried 1999).slot 2).map (fun x => x.carried) = some false ∧
    serviceCode services.slots 2001 = some 7 := by decide

/-- A table with a ZONE slot under way and a COMMITTED leap for the coming minute. -/
def planned : State :=
  State.slotIs (State.slotIs (clock (labelOf 2026 7 31 23 58 55)) 0 .committed (.leap 9708 .insert 60)) 3 .announcing
    (.zone (9709 * 1440 + 60) .summer 120)

theorem test_met_ZoneScheduleStaysLawful : planned.zoneScheduleHolds ∧ ∃ t, step planned = .next t := by
  refine ⟨⟨by decide, ?_, ?_⟩, _, rfl⟩
  · intro j k x y hj hk
    have h : ∀ n : SlotNo, ∀ z, planned.slot n = some z → z.content.kind = .zone → n = 3 := by
      have : ∀ n : SlotNo, ((planned.slot n).any (fun z => decide (z.content.kind = .zone))) = true → n = 3 := by decide
      intro n z hz hk
      exact this n (by rw [hz]; simpa using hk)
    intro hne _ _ hx hy
    exact absurd ((h j x hj hx).trans (h k y hk hy).symm) hne
  · intro l k x hl hk _ hx
    have h : ∀ n : SlotNo, ((planned.slot n).all
        (fun z => decide (z.content.kind = .zone → (labelOf 2026 7 31 23 58 55).minute < z.content.minute))) = true := by
      decide
    cases hl
    have := h k
    rw [hk] at this
    exact of_decide_eq_true this hx

theorem test_met_LeapSlotsStayLawful : planned.leapSlotsHold ∧ ∃ t, step planned = .next t := by
  have h : ∀ n : SlotNo, ((planned.slot n).all (fun z =>
      decide (z.content.kind = .leap → n = 0 ∧ z.state = .committed ∧ z.content = .leap 9708 .insert 60))) = true := by
    decide
  have h' : ∀ n z, planned.slot n = some z → z.content.kind = .leap →
      n = 0 ∧ z.state = .committed ∧ z.content = .leap 9708 .insert 60 := by
    intro n z hz
    have := h n
    rw [hz] at this
    exact of_decide_eq_true this
  refine ⟨⟨?_, ?_, ?_, ?_⟩, _, rfl⟩
  · intro k x d dir w hk _ hx
    have := (h' k x hk (by rw [hx]; rfl)).2.2
    rw [hx] at this
    cases this
    decide
  · intro j k x y hj hk hne _ _ hx hy
    exact absurd ((h' j x hj hx).1.trans (h' k y hk hy).1.symm) hne
  · intro k x hk hx
    have := h' k x hk hx
    refine ⟨fun _ => ⟨_, rfl, ?_⟩, fun l _ hst => ?_⟩
    · rw [this.2.2]; decide
    · rw [this.2.1] at hst
      rcases hst with h | h <;> cases h
  · intro j k x y hj hk _ _ hx hy
    exact (h' j x hj hx).1.trans (h' k y hk hy).1.symm

/-- What a load to minute 2000 makes of a slot alone in the table. -/
def atLoad (st : SlotState) (c : SlotContent) : List SlotNo × Option SlotState × Zone :=
  let s := State.slotIs fresh 4 st c
  let t := s.endAtLoad 2000 none 4
  (endingZones s.slots 2000, (t.slot 4).map (fun x => x.state), t.time.zone)

/-- Whether a LEAP or SERVICE slot ends at a load to minute 2000. -/
def endsAtLoad (st : SlotState) (c : SlotContent) : Bool :=
  Slot.otherEnding { state := st, content := c, carried := false } 2000

theorem test_met_LoadEndsPassedSlots :
    atLoad .committed (.zone 2001 .summer 60) = ([4], some (.done .missed), .summer) ∧
    atLoad .armed (.zone 2002 .summer 60) = ([4], some (.done .passed), .summer) ∧
    (atLoad .announcing (.zone 2003 .summer 60)).1 = [] ∧
    endingZones (State.slotIs (State.slotIs fresh 4 .announcing (.zone 2003 .summer 60)) 6 .committed
      (.zone 2100 .standard 60)).slots 2000 = [4, 6] ∧
    endsAtLoad .committed (.leap 30 .insert 60) = true ∧ endsAtLoad .armed (.leap 0 .insert 60) = true ∧
    endsAtLoad .armed (.leap 30 .insert 60) = false ∧ endsAtLoad .armed (.service 1900 2002 7) = true ∧
    endsAtLoad .announcing (.service 1900 2003 7) = false ∧ endsAtLoad (.done .ended) (.service 1900 2002 7) = false := by
  decide

/-! ### Calendar and time -/

set_option maxRecDepth 20000 in
theorem test_met_CalendarConversionsAgree :
    dateOfDay 0 = { year := 2000, month := 1, day := 1 } ∧ dateOfDay 59 = { year := 2000, month := 2, day := 29 } ∧
    dateOfDay 36584 = { year := 2100, month := 3, day := 1 } ∧ dateOfDay 73048 = { year := 2199, month := 12, day := 31 } ∧
    ({ year := 2100, month := 2, day := 29 } : Date).valid = false ∧ dayOfDate { year := 2199, month := 12, day := 31 } = 73048 ∧
    weekdayOfDay 0 = 6 := by decide

/-- A COMMITTED LEAP slot for the last minute of July 2026. -/
def leaping (dir : LeapDir) (second : Nat) : State :=
  State.slotIs (clock (labelOf 2026 7 31 23 59 second)) 0 .committed (.leap 9708 dir 60)

theorem test_met_LocalEpochAdvancesTheLabel :
    (clock noon).resetHeld = false ∧ (clock noon).time.pending = none ∧ noon.minute < 105189119 ∧
    (leaping .delete 58).nextLabel = some (labelOf 2026 8 1 0 0 0) ∧
    (leaping .insert 59).nextLabel = some (labelOf 2026 7 31 23 59 60) ∧
    (leaping .insert 60).nextLabel = some (labelOf 2026 8 1 0 0 0) ∧
    (clock { noon with second := 59 }).nextLabel = some { minute := noon.minute + 1, second := 0 } ∧
    committedLeap (leaping .delete 58).slots .delete (labelOf 2026 7 31 23 59 58).minute = true := by decide

theorem test_orders_of_an_epoch :
    reactionOrder 0 0 ≠ reactionOrder 12345 7 ∧
    (reactionOrder 12345 7).Perm
      [.settings, .maintenance, .keyer, .monitor, .holdover, .review 0, .review 1, .review 2, .composition, .table,
       .rangeEnd] := by decide

/-- All that an epoch can bring into force, staged in a second of noon's minute, with the mode LOOP pending for the boundary. -/
def staging (second : Nat) : State :=
  let s := clock { noon with second := second }
  { s with
    disc := { s.disc with staged := some { s.disc.settings with j := 200 } },
    keyer := { s.keyer with staged := some { s.keyer.active with depth := 10 } },
    monitor := { s.monitor with staged := some { s.monitor.settings with delay := 9 } },
    chains := { s.chains with pendingMaintenance := some { mode := .loop, due := .nextBoundary } } }

/-- What is in force after its next epoch: J, the depth, the monitor's delay and source, and the maintenance mode. -/
def inForce (s : State) : Nat × Nat × Nat × Source × MaintMode :=
  let t := s.epochInOrder [.settings, .maintenance, .keyer, .monitor]
  (t.disc.settings.j, t.keyer.active.depth, t.monitor.settings.delay, t.monitor.source, t.chains.maintenance)

theorem test_staged_sets_come_into_force :
    isBoundary (some { noon with second := 59 }) = false ∧ (staging 58).nextLabel = some { noon with second := 59 } ∧
    inForce (staging 58) = (200, 150, 0, .normal, .inhibit) ∧
    (staging 59).nextLabel = some { minute := noon.minute + 1, second := 0 } ∧
    inForce (staging 59) = (200, 10, 9, .loop, .loop) ∧
    inForce (State.withChains (staging 58) (fun x => { x with pendingMaintenance := some { mode := .loop, due := .nextEpoch } })) =
      (200, 150, 0, .normal, .loop) := by decide

theorem test_met_PendingLoadIsConsideredAtTheEpoch :
    (State.loading (tracking 0) { source := .host, target := noon }).time.pending = some { source := .host, target := noon } ∧
    (State.loading (tracking 0) { source := .host, target := noon }).timeStep.loaded = false ∧
    (State.loading (clock noon) { source := .host, target := { noon with second := 1 } }).nextLabel =
      some { noon with second := 1 } ∧
    (State.loading (clock noon) { source := .reference 0, target := { minute := 1439, second := 0 } }).timeStep.loaded = false ∧
    (State.loading (clock noon) { source := .reference 0, target := { minute := 1440, second := 0 } }).timeStep.loaded = true ∧
    (State.loading (clock noon) { source := .reference 0, target := { minute := 105189119, second := 59 } }).timeStep.loaded = true ∧
    (State.loading (clock noon) { source := .reference 0, target := { minute := 105189120, second := 0 } }).timeStep.loaded = false ∧
    (State.loading (clock noon) { source := .host, target := { noon with second := 60 } }).timeStep.loaded = false ∧
    (State.loading (clock noon) { source := .host, target := noon }).timeStep.loaded = true := by decide

/-- What the time scale alone does with a load at the epoch: the label, and the notices it adds. -/
def considered (s : State) (p : PendingLoad) : Option Label × List NoticeData :=
  let t := ((State.loading s p).epochInOrder [])
  (t.time.label, (t.notices.entries.drop 1).map (fun e => e.data))

/-- R34: the three reasons of a declined load, in their order. -/
theorem test_declined_loads_and_their_reasons :
    considered (tracking 0) { source := .host, target := { minute := 1439, second := 60 } } =
      (some { noon with second := 1 }, [.timeLoaded .host (.declined .state) { minute := 1439, second := 60 }]) ∧
    considered (clock noon) { source := .host, target := { minute := 1439, second := 60 } } =
      (some { noon with second := 1 }, [.timeLoaded .host (.declined .range) { minute := 1439, second := 60 }]) ∧
    considered (tracking 0) { source := .reference 0, target := { noon with second := 60 } } =
      (some { noon with second := 1 }, [.timeLoaded (.reference 0) (.declined .leap) { noon with second := 60 }]) ∧
    considered (clock noon) { source := .host, target := { noon with second := 1 } } =
      (some { noon with second := 1 }, [.timeLoaded .host .unchanged { noon with second := 1 }]) ∧
    considered (clock noon) { source := .reference 0, target := { noon with second := 1 } } =
      (some { noon with second := 1 }, []) := by decide

theorem test_met_TimeEndsWithItsRange :
    (clock { minute := 105189119, second := 59 }).resetHeld = false ∧
    (clock { minute := 105189119, second := 59 }).time.pending = none ∧
    committedLeap (clock { minute := 105189119, second := 59 }).slots .insert 105189119 = false ∧
    NoticeKind.timeEnd ∉ (clock { minute := 105189119, second := 59 }).notices.mask ∧
    (clock { minute := 105189119, second := 59 }).rangeEndDue = true := by decide

/-- The last second of the range, with every reference OFF. -/
def rangeEnd (d : DiscState) : State :=
  State.inDisc (State.refIn (State.refIn (State.refIn (clock { minute := 105189119, second := 59 }) 0 .off) 1 .off) 2 .off) d

theorem test_discipline_at_the_range_end :
    (∀ r, ((rangeEnd .track).ref r).state = .off) ∧
    ((rangeEnd .track).epochInOrder [.rangeEnd]).disc.state = .free ∧
    (((rangeEnd .track).epochInOrder [.rangeEnd]).notices.entries.map (fun e => e.data)) =
      [.reset .pin .b9600, .timeEnd { minute := 105189119, second := 59 }, .discState .track .free none .rangeEnd] ∧
    (((rangeEnd .free).epochInOrder [.rangeEnd]).notices.entries.map (fun e => e.data)) =
      [.reset .pin .b9600, .timeEnd { minute := 105189119, second := 59 }] := by decide

/-- The last second of the range with reference 1 GOOD and selected, one good edge in the second, the others OFF. -/
def endOfRange (d : DiscState) : State :=
  let s := rangeEnd d
  { s.setRef 0
      { s.ref 0 with
        state := .good, reviewPending := true,
        obs := { edges := 1, offset := some 3, wordMissing := false, disagreed := false, excursion := false } } with
    selector := { mode := .autoRevert, selected := some 0 } }

theorem test_range_end_with_a_selection :
    (endOfRange .track).reviewsChangeNone ∧ (endOfRange .track).disc.state = .track ∧
    ((endOfRange .track).ref 0).state = .good ∧ (endOfRange .track).selector.selected = some 0 ∧
    (endOfRange .holdover).disc.elapsed + 1 < (endOfRange .holdover).nextSettings.h2 ∧
    ([DiscState.track, .acquire, .holdover, .free].map (fun d =>
      (((endOfRange d).epochInOrder [.review 0, .holdover, .rangeEnd]).disc.state,
       (((endOfRange d).epochInOrder [.review 0, .holdover, .rangeEnd]).notices.entries.drop 2).map (fun e => e.data)))) =
      [(.free, [.discState .track .free (some 0) .rangeEnd]), (.free, [.discState .acquire .free (some 0) .rangeEnd]),
       (.free, [.discState .holdover .free (some 0) .rangeEnd]), (.free, [])] := by
  unfold State.reviewsChangeNone
  decide

theorem test_met_LabelStaysInRange : (clock noon).timeBounded ∧ ∃ t, step (clock noon) = .next t := by
  refine ⟨⟨?_, ?_, ?_⟩, _, rfl⟩
  · intro l h
    cases h
    unfold Label.inRange
    decide
  · intro p h
    cases h
  · intro r w h
    have : ∀ r, ((clock noon).ref r).held = none := by decide
    rw [this r] at h
    cases h

/-! ### References -/

/-- Reference 1 with a word under assembly. -/
def wording (t : Text) : State := fresh.setRef 0 { fresh.ref 0 with assembly := some t }

theorem test_met_WordReceiverTakesCharacters :
    fresh.resetHeld = false ∧ (fresh.ref 0).state ≠ .off ∧ (fresh.ref 0).assembly = none ∧
    ((State.refIn fresh 0 .off).ref 0).state = .off ∧
    ((wording (List.replicate 15 '0')).ref 0).assembly = some (List.replicate 15 '0') ∧
    (after (.wordCharacterReceived 0 { code := '0', framingError := false }) (wording (List.replicate 15 '0'))).map
      (fun t => (t.ref 0).assembly) = some none ∧
    (after (.wordCharacterReceived 0 { code := '\r', framingError := false }) (wording "202607171200000".toList)).map
      (fun t => (t.ref 0).held) =
      some (some { date := { year := 2026, month := 7, day := 17 }, hour := 12, minute := 0, second := 0, leap := .nothing }) := by
  decide

/-- What a character makes of a word under assembly: the assembly and the held word. -/
def worded (t : Text) (c : Char) (e : Bool) : Option (Option Text × Option TimeWord) :=
  (after (.wordCharacterReceived 0 { code := c, framingError := e }) (wording t)).map
    (fun u => ((u.ref 0).assembly, (u.ref 0).held))

theorem test_words_that_fail :
    [('#', true), ('\r', true), ('0', true), ('\r', false)].map (fun x => worded "2026".toList x.1 x.2) =
      List.replicate 4 (some (none, none)) := by decide

theorem test_words_that_go_on :
    worded "2026".toList '#' false = some (some [], none) ∧
    worded (List.replicate 14 '0') '0' false = some (some (List.replicate 15 '0'), none) := by decide

theorem test_a_word_begins_with_a_hash :
    after (.wordCharacterReceived 0 { code := '#', framingError := true }) fresh = some fresh ∧
    (after (.wordCharacterReceived 0 { code := '#', framingError := false }) fresh).map (fun u => (u.ref 0).assembly) =
      some (some []) := by decide

theorem test_met_valid_word_is_held :
    ({ year := 2026, month := 12, day := 31 } : Date).valid = true ∧
    after (.wordCompletion 0 (some "20261231235960+".toList)) fresh =
      some (fresh.setRef 0 { fresh.ref 0 with
        assembly := none,
        held := some { date := { year := 2026, month := 12, day := 31 }, hour := 23, minute := 59, second := 60, leap := .inserted } }) := by
  decide

/-- The last capture of reference 2 after its edge at a phase count. -/
def captured (phase : Nat) : Option Capture :=
  (after (.referenceEdge 1 .rising) { tracking phase with counter := { phase := phase, length := 10000000 } }).bind
    (fun t => (t.ref 1).last)

theorem test_met_EdgeIsLatchedAndRecorded :
    (tracking 0).resetHeld = false ∧ ((tracking 0).ref 1).state ≠ .off ∧ ((tracking 0).ref 1).polarity = .rising ∧
    (tracking 0).selector.selected ≠ some 1 ∧ ((State.refIn fresh 1 .off).ref 1).state = .off ∧
    (captured 4999999).map (fun c => (c.offset, c.side, c.label)) = some (4999999, .current, some noon) ∧
    (captured 5000000).map (fun c => (c.offset, c.side, c.label)) = some (-5000000, .next, some { noon with second := 1 }) := by
  decide

/-- The time word of noon with a leap mark. -/
def noonWord (second : Nat) (leap : LeapMark) : TimeWord :=
  { date := { year := 2026, month := 7, day := 17 }, hour := 12, minute := 0, second := second, leap := leap }

/-- Reference 2 GOOD with a held word, and its edge rising at phase count 5. -/
def worded2 (st : RefState) (w : TimeWord) : State :=
  State.at ((State.refIn (clock noon) 1 st).setRef 1 { (State.refIn (clock noon) 1 st).ref 1 with held := some w }) 5

/-- The agreement, the observations and the notices that an edge of reference 2 leaves. -/
def edged (s : State) : Option (Option Agreement × SecondObs × List NoticeData) :=
  (after (.referenceEdge 1 .rising) s).map
    (fun t => ((t.ref 1).last.map (fun c => c.agreement), (t.ref 1).obs, (t.notices.entries.drop 1).map (fun e => e.data)))

theorem test_edges_compare_their_words :
    edged (worded2 .good (noonWord 0 .inserted)) =
      some (some .agree, { edges := 1, offset := some 5, wordMissing := false, disagreed := false, excursion := false },
        [.leapMismatch 1 .inserted 9708]) ∧
    edged (worded2 .lost (noonWord 0 .inserted)) =
      some (some .agree, { edges := 1, offset := some 5, wordMissing := false, disagreed := false, excursion := false }, []) ∧
    edged (State.slotIs (worded2 .good (noonWord 1 .deleted)) 0 .armed (.leap 9708 .insert 60)) =
      some (some .disagree, { edges := 1, offset := some 5, wordMissing := false, disagreed := true, excursion := false }, []) ∧
    edged (State.at (clock noon) 5) =
      some (some .unchecked, { edges := 1, offset := some 5, wordMissing := true, disagreed := false, excursion := false }, []) := by
  decide

/-- R41, R195: a rise of a line that is already high is no edge, and a fall lets it rise again. -/
theorem test_a_second_rise_needs_a_fall :
    (match execAll [.referenceEdge 1 .rising, .referenceEdge 1 .rising] fresh with
      | .next t => some (t.ref 1).obs.edges | _ => none) = some 1 ∧
    (match execAll [.referenceEdge 1 .rising, .referenceEdge 1 .falling, .referenceEdge 1 .rising] fresh with
      | .next t => some (t.ref 1).obs.edges | _ => none) = some 2 := by decide

/-- A reference with the observations of one edge at an offset, against a jitter base of 0. -/
def observed (e : Int) : Reference :=
  { Reference.reset 0 with jitterBase := some 0, obs := { SecondObs.empty with edges := 1, offset := some e } }

theorem test_met_SecondIsClassed :
    (Reference.reset 0).classify 50 = .missed ∧ (observed (-50)).classify 50 = .good ∧
    (observed 51).classify 50 = .faulty .jitter ∧
    ({ observed 0 with obs := { (observed 0).obs with edges := 2, excursion := true } } : Reference).classify 50 = .faulty .excursion ∧
    ({ observed 0 with obs := { (observed 0).obs with edges := 2, wordMissing := true } } : Reference).classify 50 = .faulty .multiple ∧
    ({ observed 0 with obs := { (observed 0).obs with wordMissing := true, disagreed := true } } : Reference).classify 50 = .faulty .noword ∧
    ({ observed 99 with obs := { (observed 99).obs with disagreed := true } } : Reference).classify 50 = .faulty .disagree := by
  decide

/-- A reference in a state with its counters. -/
def counting (st : RefState) (good fault miss : Nat) : Reference :=
  { Reference.reset 0 with state := st, goodRun := good, faultCount := fault, missCount := miss }

theorem test_met_ReviewMovesAReference :
    ((counting .lost 0 0 0).move .good).1.state = .qualifying ∧ ((counting .qualifying 9 0 0).move .good).1.state = .good ∧
    ((counting .qualifying 8 0 0).move .good).1.goodRun = 9 ∧
    ((counting .good 0 2 0).move (.faulty .jitter)).1.state = .rejected ∧
    ((counting .good 0 1 0).move (.faulty .jitter)).1.faultCount = 2 ∧
    ((counting .rejected 59 0 0).move .good).1.state = .qualifying ∧ ((counting .rejected 58 0 0).move .good).1.goodRun = 59 ∧
    ((counting .good 0 0 2).move .missed).1.state = .lost ∧ ((counting .good 0 0 1).move .missed).1.missCount = 2 ∧
    ((counting .good 0 0 3).move .good).1.state = .lost := by decide

/-- Reference 1 GOOD with one edge in the ended second, at an offset of 30, and its review pending or not. -/
def reviewing (pending stepped : Bool) : State :=
  let s := tracking 0
  { s.setRef 0
      { s.ref 0 with
        reviewPending := pending, jitterBase := some 30,
        obs := { edges := 1, offset := some 30, wordMissing := false, disagreed := false, excursion := false } } with
    counter := { phase := 0, length := 10000030 }, disc := { s.disc with stepped := stepped } }

/-- The reference after the review at its next epoch. -/
def reviewed (s : State) : Reference := (s.epochInOrder [.review 0]).ref 0

theorem test_reviews_of_an_epoch :
    reviewed (State.refIn (reviewing true false) 0 .off) = (State.refIn (reviewing true false) 0 .off).ref 0 ∧
    reviewed (reviewing false false) = { (reviewing true false).ref 0 with obs := SecondObs.empty } ∧
    reviewed (reviewing true true) =
      { (reviewing true false).ref 0 with obs := SecondObs.empty, jitterBase := none, review := some .skipped } ∧
    ((reviewing true false).ref 0).classify 50 = .good ∧
    reviewed (reviewing true false) =
      { (reviewing true false).ref 0 with obs := SecondObs.empty, jitterBase := some 0, review := some .good } := by decide

/-- R53, R62: the miss that loses the selected reference, at the review of an epoch with this label. -/
theorem test_selection_lost_at_a_review :
    let s := (tracking 0).setRef 0 { (tracking 0).ref 0 with missCount := 2 }
    let t := s.review 0 false 50 0 (some noon)
    (s.ref 0).reviewPending = true ∧ ((s.ref 0).move ((s.ref 0).classify 50)).2 = some .misses ∧
    (t.notices.entries.drop 1).map (fun e => (e.data, e.label)) =
      [(.refState 0 .good .lost .misses, some noon), (.select (some 0) none .autoRevert .state, some noon),
       (.discState .track .holdover none .selectionLost, some noon)] := by decide

theorem test_met_SelectedReferenceIsGood : (tracking 0).selectedGood ∧ ∃ t, step (tracking 0) = .next t := by
  refine ⟨?_, _, rfl⟩
  intro r h
  cases h
  decide

/-! ### Discipline -/

theorem test_met_TrackingCapturesAndExcursions :
    (tracking 1500).resetHeld = false ∧ ((tracking 1500).ref 0).state ≠ .off ∧ (tracking 1500).selector.selected = some 0 ∧
    (tracking 1500).disc.state = .track ∧ (tracking 1500).disc.firstAwaited = false ∧
    (offsetOf ((1500 : Int) - 0)).natAbs ≤ (tracking 1500).disc.settings.s ∧
    (after (.referenceEdge 0 .rising) (tracking 1500)).map (fun t => t.counter) = some { phase := 1500, length := 10000100 } ∧
    (after (.referenceEdge 0 .rising) (tracking 2)).map (fun t => t.counter) = some { phase := 2, length := 10000000 } ∧
    (after (.referenceEdge 0 .rising) (tracking 3)).map (fun t => t.counter) = some { phase := 3, length := 10000003 } := by
  decide

/-- The correction of an edge just before the epoch is already passed: the second ends at once. -/
theorem test_late_edge_ends_the_second :
    ((tracking 9999990).edgeEvent 0).ended = true ∧ ((tracking 9999990).edgeEvent 0).state.counter.length = 9999990 := by
  decide

/-- Tracking with two excursions counted. -/
def strained : State := { tracking 20000 with disc := { (tracking 20000).disc with excursions := 2 } }

theorem test_met_third_excursion :
    strained.resetHeld = false ∧ (strained.ref 0).state = .good ∧ strained.selector.selected = some 0 ∧
    strained.disc.state = .track ∧ strained.disc.firstAwaited = false ∧ strained.disc.excursions = 2 ∧
    strained.disc.settings.s < (offsetOf ((strained.counter.phase : Int) - (strained.ref 0).delay)).natAbs ∧
    (∀ q : RefNo, q ≠ 0 → (strained.ref q).state ≠ .good) ∧ NoticeKind.refState ∉ strained.notices.mask ∧
    (after (.referenceEdge 0 .rising) strained).map (fun t => ((t.ref 0).state, t.disc.state, t.counter)) =
      some (.rejected, .holdover, strained.counter) := by decide

/-- The first two captures beyond S are clamped and counted (R71). -/
theorem test_first_excursions :
    (after (.referenceEdge 0 .rising) (tracking 20000)).map (fun t => (t.counter.length, t.disc.excursions)) =
      some (10000100, 1) ∧
    (after (.referenceEdge 0 .rising) { tracking 20000 with disc := { (tracking 20000).disc with excursions := 1 } }).map
      (fun t => (t.counter.length, t.disc.excursions)) = some (10000100, 2) ∧
    (after (.referenceEdge 0 .rising) { tracking 10000 with disc := { (tracking 10000).disc with excursions := 2 } }).map
      (fun t => (t.counter.length, t.disc.excursions)) = some (10000100, 0) := by decide

/-- Reference 1 selected, in a discipline state. -/
def selecting (d : DiscState) (phase : Nat) : State := State.inDisc (tracking phase) d

/-- The discipline and the running length after its edge. -/
def disciplined (s : State) : Option (Discipline × EpochCounter) :=
  (after (.referenceEdge 0 .rising) s).map (fun t => (t.disc, t.counter))

/-- Reference 1 in ACQUIRE with a lock run. -/
def locking (run phase : Nat) : State :=
  { selecting .acquire phase with disc := { (selecting .acquire phase).disc with lockRun := run } }

theorem test_met_CaptureInFreeOrAcquire :
    (selecting .free 20000).meetsEdge 0 ∧ (selecting .free 20000).offsetNow 0 = 20000 ∧
    disciplined (selecting .free 20000) =
      some ({ (tracking 0).disc with state := .acquire, entrySecond := true }, { phase := 20000, length := 10000000 }) ∧
    added (.referenceEdge 0 .rising) (selecting .free 20000) = some [.discState .free .acquire (some 0) .selected] ∧
    disciplined { selecting .acquire 20000 with disc := { (selecting .acquire 0).disc with entrySecond := true } } =
      some ({ (selecting .acquire 0).disc with entrySecond := true }, { phase := 20000, length := 10000000 }) ∧
    disciplined (locking 3 101) =
      some ({ (locking 0 0).disc with stepped := true }, { phase := 101, length := 10000101 }) ∧
    added (.referenceEdge 0 .rising) (locking 3 101) = some [.step 0 101 101 101 (some noon)] ∧
    disciplined (locking 2 100) = some ((locking 0 0).disc, { phase := 100, length := 10000100 }) ∧
    disciplined (locking 2 50) = some ((locking 3 0).disc, { phase := 50, length := 10000050 }) ∧
    disciplined (locking 2 2) = some ((locking 3 0).disc, { phase := 2, length := 10000000 }) ∧
    disciplined (locking 3 2) = some ((tracking 0).disc, { phase := 2, length := 10000000 }) ∧
    added (.referenceEdge 0 .rising) (locking 3 2) = some [.discState .acquire .track (some 0) .locked] ∧
    ((locking 3 9999000).edgeEvent 0).ended = true := by
  unfold State.meetsEdge
  decide

/-- R33: the load that a worded capture asks for, on either side of the split. -/
theorem test_loads_of_worded_captures :
    (State.at (worded2 .good (noonWord 59 .nothing)) 4999999).loadAfter 1 =
      some { source := .reference 1, target := { minute := noon.minute + 1, second := 0 } } ∧
    (State.at (worded2 .good (noonWord 59 .nothing)) 5000000).loadAfter 1 =
      some { source := .reference 1, target := { minute := noon.minute, second := 59 } } ∧
    fresh.loadAfter 1 = none := by decide

/-- Reference 1 newly selected in TRACK or HOLDOVER, its first capture awaited. -/
def awaiting (d : DiscState) (phase : Nat) : State :=
  { selecting d phase with
    disc := { (selecting d phase).disc with firstAwaited := true, elapsed := (if d = .holdover then 7 else 0) } }

theorem test_met_FirstCaptureAfterASelection :
    (awaiting .track 10000).meetsEdge 0 ∧ (awaiting .track 10000).disc.firstAwaited = true ∧
    disciplined (awaiting .track 10000) = some ((tracking 0).disc, { phase := 10000, length := 10000100 }) ∧
    disciplined (awaiting .track 2) = some ((tracking 0).disc, { phase := 2, length := 10000000 }) ∧
    disciplined (awaiting .holdover 10000) = some ((tracking 0).disc, { phase := 10000, length := 10000100 }) ∧
    added (.referenceEdge 0 .rising) (awaiting .holdover 3) = some [.discState .holdover .track (some 0) .resumed] ∧
    disciplined (awaiting .track 10001) =
      some ({ (tracking 0).disc with state := .acquire, entrySecond := true }, { phase := 10001, length := 10000000 }) ∧
    disciplined (awaiting .holdover 10001) =
      some ({ (tracking 0).disc with state := .acquire, entrySecond := true }, { phase := 10001, length := 10000000 }) ∧
    added (.referenceEdge 0 .rising) (awaiting .holdover 10001) = some [.discState .holdover .acquire (some 0) .offset] := by
  unfold State.meetsEdge
  decide

/-- HOLDOVER with an elapsed count. -/
def holding (n : Nat) : State :=
  { State.inDisc (clock noon) .holdover with disc := { fresh.disc with state := .holdover, elapsed := n, holdoverRef := some 0 } }

theorem test_met_QualityCodeFollowsTheState :
    (holding 3600).qualityCode = some 1 ∧ (holding 3601).qualityCode = some 2 ∧ (clock noon).qualityCode = some 3 ∧
    (tracking 0).qualityCode = some 0 ∧ (State.inDisc (clock noon) .acquire).qualityCode = none ∧ fresh.qualityCode = none := by
  decide

theorem test_met_HoldoverReachesItsLimits :
    (holding 3599).resetHeld = false ∧ (holding 3599).disc.state = .holdover ∧ (holding 3599).disc.h1Passed = false ∧
    (holding 3599).disc.staged = none ∧ (holding 3599).rangeEndDue = false ∧
    (holding 3599).disc.settings.h1 ≤ (holding 3599).disc.elapsed + 1 ∧
    (holding 3599).disc.elapsed + 1 < (holding 3599).disc.settings.h2 ∧
    NoticeKind.holdoverLimit ∉ (holding 3599).notices.mask ∧ (holding 3598).h1Due = false ∧ (holding 3599).h1Due = true := by
  decide

theorem test_met_holdover_expires :
    (holding 86399).resetHeld = false ∧ (holding 86399).disc.state = .holdover ∧ (holding 86399).disc.staged = none ∧
    (holding 86399).rangeEndDue = false ∧ (holding 86399).disc.settings.h2 ≤ (holding 86399).disc.elapsed + 1 ∧
    (holding 86398).h2Due = false ∧ (holding 86399).h2Due = true ∧
    ((holding 86399).epochInOrder [.holdover]).disc.expired = true := by decide

theorem test_met_EverySecondIsBounded : (tracking 0).secondBounded ∧ ∃ t, step (tracking 0) = .next t := by
  refine ⟨⟨by decide, by decide, by decide, by decide, ⟨by decide, ?_⟩, ⟨by decide, ?_⟩, by decide, ?_⟩, _, rfl⟩
  · intro d h; cases h
  · intro e h; cases h
  · intro c h; cases h

/-- A second at either end of what J allows, keyed in TRACK. -/
theorem test_keyed_second_at_its_ends :
    10000000 ≤ 9999900 + (tracking 0).disc.settings.j ∧ 10000100 ≤ 10000000 + (tracking 0).disc.settings.j ∧
    disciplined (tracking 20000) = some ({ (tracking 0).disc with excursions := 1 }, { phase := 20000, length := 10000100 }) ∧
    disciplined (tracking 9980000) = some ({ (tracking 0).disc with excursions := 1 }, { phase := 9980000, length := 9999900 }) := by
  decide

/-- A drop scheduled in BARE. -/
def bare : State := { shaping .idle with keyer := { (shaping .idle).keyer with mode := .bare } }

theorem test_met_KeyedSecondsStayNearNominal :
    bare.keyedSecondHolds ∧ bare.keyer.schedule ≠ [] ∧ bare.resetHeld = false ∧
    ∃ t, step bare = .next t := by
  refine ⟨⟨⟨by decide, by decide, by decide, by decide, ⟨by decide, ?_⟩, ⟨by decide, ?_⟩, by decide, ?_⟩, by decide,
    ?_, by decide, by decide⟩, by decide, by decide, _, rfl⟩
  · intro d h; cases h
  · intro e h; cases h
  · intro c h; cases h
  · decide

/-! ### Records, keying and the envelope -/

set_option maxRecDepth 20000 in
theorem test_met_CompositionPlacesARecord :
    record.keyed = noon.minute + 1 ∧ record.length = 60 ∧ record.symbols.length = 60 ∧
    oddOnes (dateGroup record.fields ++ [record.parity.p3]) = false := by decide

/-- Second 49 of a minute with every reference OFF. -/
def composing (d : DiscState) (second : Nat) : State :=
  State.inDisc (State.refIn (State.refIn (State.refIn (clock { noon with second := second }) 0 .off) 1 .off) 2 .off) d

set_option maxRecDepth 20000 in
theorem test_composition_happens_at_second_50 :
    (∀ r, ((composing .free 49).ref r).state = .off) ∧
    (clock { noon with second := 50 }).qualityCode = some 3 ∧
    (composing .acquire 50).qualityCode = none ∧
    ((composing .acquire 49).epochInOrder [.composition]).nextRecord = none ∧
    ((composing .free 48).epochInOrder [.composition]).nextRecord = none := by decide

set_option maxRecDepth 20000 in
/-- R123: a record still in NEXT is replaced, and its loss reported under the composition label. -/
theorem test_replaced_record :
    (clock noon).nextRecord = none ∧ ((clock noon).place record).notices = (clock noon).notices ∧
    ((({ clock noon with nextRecord := some { record with stale := true } } : State).place record).notices.entries.drop
      1).map (fun e => (e.data, e.label)) =
      [(.recordDiscard .replaced (noon.minute + 1) (noon.minute + 1) true, some { noon with second := 50 })] := by decide

/-- The part with a summer change announced, a leap announced and a service carried. -/
def telling : State :=
  State.slotIs (State.slotIs (State.slotIs (clock { noon with second := 50 }) 0 .announcing (.zone (noon.minute + 5) .summer 10))
    1 .announcing (.leap 9708 .delete 30000)) 2 .announcing (.service (noon.minute + 2) (noon.minute + 4) 77)

set_option maxRecDepth 20000 in
theorem test_met_RecordDescribesItsMinute :
    (telling.recordFields (noon.minute + 2) 1).zoneChange = true ∧ (telling.recordFields (noon.minute + 2) 1).leap = true ∧
    (telling.recordFields (noon.minute + 2) 1).leapDelete = true ∧ (telling.recordFields (noon.minute + 2) 1).summer = false ∧
    (telling.recordFields (noon.minute + 2) 1).present = true ∧ (telling.recordFields (noon.minute + 2) 1).code = 77 ∧
    (telling.recordFields (noon.minute + 4) 1).present = false ∧ (telling.recordFields (noon.minute + 5) 1).summer = true ∧
    (telling.recordFields (noon.minute + 5) 1).zoneChange = false ∧
    ((telling.recordFields (noon.minute + 2) 1).localMinute, (telling.recordFields (noon.minute + 2) 1).localHour,
      (telling.recordFields (noon.minute + 2) 1).localDay, (telling.recordFields (noon.minute + 2) 1).weekday,
      (telling.recordFields (noon.minute + 2) 1).localMonth, (telling.recordFields (noon.minute + 2) 1).localYear) =
      (2, 12, 17, 5, 7, 26) := by decide

theorem test_a_composition_leaves_a_record (s : State) (l : Label) (q : Nat) : ∃ r, (s.compose l q).nextRecord = some r := by
  cases h : (s.tableAtComposition (l.minute + 1) (l.minute + 2) (some l)).nextRecord <;>
    exact ⟨_, by unfold State.compose State.place; simp only [h]; rfl⟩

theorem test_met_RecordsKeepTheirParity :
    (({ fresh with nextRecord := some record } : State).setAir (some record)).recordsHold ∧
    ∃ t, step (({ fresh with nextRecord := some record } : State).setAir (some record)) = .next t := by
  refine ⟨⟨?_, ?_, ?_⟩, _, rfl⟩
  · intro r h; cases h; rfl
  · intro r h; cases h; rfl
  · intro r h; cases h; rfl

/-- What an epoch hands on at the boundary that begins a minute. -/
def boundary (l : Label) : EpochCtx :=
  { endedLength := 10000000, window := 50, stepped := false, endedLabel := none, endedMinuteLength := 60,
    keyed := { mode := .quiet, symbol := .none }, wasHoldover := false, label := some l, loaded := false, rangeEnd := false }

/-- The part on air in NORMAL mode at the minute that its record names. -/
def onAir : State :=
  { State.withChains (clock { minute := noon.minute + 1, second := 0 }) (fun x => { x with maintenance := .normal }) with
    nextRecord := some record }

theorem test_met_FullNeedsTimeAndRecord :
    (onAir.keyerEpoch (boundary { minute := noon.minute + 1, second := 0 })).keyer.mode = .full ∧
    (onAir.keyerEpoch (boundary { minute := noon.minute + 2, second := 0 })).keyer.mode = .bare ∧
    (fresh.keyerEpoch (boundary noon)).keyer.mode = .quiet ∧ fresh.chains.maintenance = .inhibit := by decide

/-- The part keying the record FULL from its minute's beginning, moved to one of the minute's seconds. -/
def keying (second : Nat) : State :=
  let s := onAir.keyerEpoch (boundary { minute := noon.minute + 1, second := 0 })
  { s with time := { s.time with label := some { minute := noon.minute + 1, second := second } } }

/-- What the keyer schedules for the second that begins, and the symbol handed to the monitor. -/
def keyed (s : State) (second : Nat) : KeyMode × List Drop × KeyedSecond :=
  let t := s.keyerEpoch (boundary { minute := noon.minute + 1, second := second })
  (t.keyer.mode, t.keyer.schedule, t.monitor.keyed)

/-- The part keying a record whose second 7 has both windows. -/
def windows (a b : Bool) : State :=
  (keying 7).setAir (some { record with symbols := record.symbols.set 7 (.mark a b) })

theorem test_drops_of_a_second :
    keyed onAir 0 = (.full, [{ start := 0, duration := 5000000 }], { mode := .full, symbol := .minute }) ∧
    keyed (windows false false) 7 =
      (.full, [{ start := 0, duration := 1000000 }], { mode := .full, symbol := .mark false false }) ∧
    keyed (windows true false) 7 =
      (.full, [{ start := 0, duration := 1000000 }, { start := 2000000, duration := 1000000 }],
        { mode := .full, symbol := .mark true false }) ∧
    keyed (windows false true) 7 =
      (.full, [{ start := 0, duration := 1000000 }, { start := 4000000, duration := 1000000 }],
        { mode := .full, symbol := .mark false true }) ∧
    keyed (windows true true) 7 =
      (.full,
        [{ start := 0, duration := 1000000 }, { start := 2000000, duration := 1000000 },
         { start := 4000000, duration := 1000000 }],
        { mode := .full, symbol := .mark true true }) := by decide

theorem test_drops_without_a_record :
    keyed { onAir with nextRecord := none } 0 =
      (.bare, [{ start := 0, duration := 5000000 }], { mode := .bare, symbol := .minute }) ∧
    keyed { keying 58 with keyer := { (keying 58).keyer with mode := .bare } } 59 =
      (.bare, [{ start := 0, duration := 1000000 }], { mode := .bare, symbol := .mark false false }) ∧
    keyed fresh 0 = (.quiet, [], { mode := .quiet, symbol := .none }) ∧
    keyed fresh 1 = (.quiet, [], { mode := .quiet, symbol := .none }) := by decide

/-- The mode, whether AIR holds a record, and the notices that a boundary leaves. -/
def begun (s : State) (minute : Nat) : KeyMode × Bool × List NoticeData :=
  let t := s.keyerEpoch (boundary { minute := minute, second := 0 })
  (t.keyer.mode, t.keyer.air.isSome, (t.notices.entries.drop 1).map (fun e => e.data))

/-- With an expired holdover and an expiry action. -/
def expiredWith (x : ExpiryAction) : State :=
  { onAir with disc := { onAir.disc with expired := true, settings := { onAir.disc.settings with expiry := x } } }

/-- R131, R134, R138: the rows of the decision, and the tests of the record. -/
theorem test_decisions_at_a_boundary :
    begun (State.withChains onAir (fun x => { x with maintenance := .inhibit })) (noon.minute + 1) = (.quiet, true, []) ∧
    begun (State.inDisc onAir .acquire) (noon.minute + 1) = (.quiet, true, []) ∧
    begun (expiredWith .bare) (noon.minute + 1) = (.bare, true, [.keyMode .quiet .bare .expired]) ∧
    begun (expiredWith .continue) (noon.minute + 1) = (.full, true, [.keyMode .quiet .full .record]) ∧
    begun { onAir with nextRecord := none } (noon.minute + 1) = (.bare, false, [.keyMode .quiet .bare .norecord]) ∧
    begun onAir (noon.minute + 1) = (.full, true, [.keyMode .quiet .full .record]) := by decide

theorem test_discards_at_a_boundary :
    begun onAir (noon.minute + 2) =
      (.bare, false,
        [.recordDiscard (.stale .minute) (noon.minute + 1) (noon.minute + 2) false, .keyMode .quiet .bare .norecord]) ∧
    begun { onAir with nextRecord := some { record with length := 61, stale := true } } (noon.minute + 1) =
      (.bare, false,
        [.recordDiscard (.stale .length) (noon.minute + 1) (noon.minute + 1) true, .keyMode .quiet .bare .norecord]) ∧
    begun { onAir with nextRecord := some { record with stale := true } } (noon.minute + 1) =
      (.bare, false,
        [.recordDiscard (.stale .mark) (noon.minute + 1) (noon.minute + 1) true, .keyMode .quiet .bare .norecord]) ∧
    begun { keying 59 with nextRecord := some record } (noon.minute + 1) = (.full, true, [.keyMode .quiet .full .record]) := by
  decide

/-- The mode, whether AIR holds a record, and the notices added at an epoch that begins second 7 of a minute. -/
def tested (s : State) (minute : Nat) (loaded : Bool) : KeyMode × Bool × List NoticeData :=
  let t := s.keyerEpoch { boundary { minute := minute, second := 7 } with loaded := loaded }
  (t.keyer.mode, t.keyer.air.isSome, (t.notices.entries.drop s.notices.entries.length).map (fun e => e.data))

/-- The record keyed FULL, with the notices of its beginning read. -/
def quietly : State := { keying 6 with notices := fresh.notices }

/-- R133, R136: the load's test and the three conditions between boundaries. -/
theorem test_decisions_between_boundaries :
    tested quietly (noon.minute + 1) true = (.full, true, []) ∧ tested quietly (noon.minute + 9) false = (.full, true, []) ∧
    tested quietly (noon.minute + 9) true =
      (.bare, false,
        [.recordDiscard (.stale .minute) (noon.minute + 1) (noon.minute + 9) false, .keyMode .full .bare .load]) ∧
    tested (quietly.setAir (some { record with length := 61 })) (noon.minute + 1) true =
      (.bare, false,
        [.recordDiscard (.stale .length) (noon.minute + 1) (noon.minute + 1) false, .keyMode .full .bare .load]) ∧
    tested (State.withChains quietly (fun x => { x with maintenance := .inhibit })) (noon.minute + 1) false =
      (.quiet, true, [.keyMode .full .quiet .inhibit]) ∧
    tested (State.inDisc quietly .acquire) (noon.minute + 1) false = (.quiet, true, [.keyMode .full .quiet .acquire]) ∧
    tested { quietly with time := fresh.time } (noon.minute + 1) false = (.quiet, true, [.keyMode .full .quiet .unset]) := by
  decide

theorem test_record_has_its_symbols : record.symbolsHold := by
  refine ⟨by decide, by decide, fun n h1 h2 => ?_⟩
  have h : ∀ n, n < 60 → 1 ≤ n →
      (record.symbols[n]?).any (fun x => match x with | .mark _ _ => true | _ => false) = true := by decide
  have hn := h n h2 h1
  generalize record.symbols[n]? = x at hn
  match x with
  | some (.mark a b) => exact ⟨a, b, rfl⟩
  | some .minute => cases hn
  | some .none => cases hn
  | none => cases hn

theorem test_met_FullKeyingStaysLawful :
    (keying 30).fullHolds ∧ (keying 30).keyer.mode = .full ∧ ∃ t, step (keying 30) = .next t := by
  refine ⟨⟨fun _ => ⟨⟨_, _, rfl, rfl, by decide, by decide⟩, by decide⟩, ?_, ?_⟩, by decide, _, rfl⟩
  · intro r h
    cases h with
    | inl h => cases h
    | inr h => cases h; exact test_record_has_its_symbols
  · intro l r _ h
    cases h

/-- With a record in NEXT for the coming minute. -/
theorem test_full_keying_with_a_next_record :
    ({ onAir with time := { onAir.time with label := some noon } } : State).fullHolds := by
  refine ⟨fun h => ?_, ?_, ?_⟩
  · cases h
  · intro r h
    cases h with
    | inl h => cases h; exact test_record_has_its_symbols
    | inr h => cases h
  · intro l r hl hr _
    cases hl
    cases hr
    refine ⟨rfl, fun k x hx => ?_⟩
    have : ∀ k, onAir.slot k = none := by decide
    rw [show ({ onAir with time := { onAir.time with label := some noon } } : State).slot k = none from this k] at hx
    cases hx

theorem test_met_EnvelopeFollowsTheTable :
    (shaping .idle).resetHeld = false ∧
    (shaping .idle).keyer.schedule[(shaping .idle).keyer.dropIndex]? = some { start := 0, duration := 1000000 } ∧
    (shaping .idle).keyer.active = { depth := 150, segment := 2500, shape := #v[50, 150, 300, 500, 700, 850, 950, 1000] } ∧
    (after .envelopeSegment (shaping .idle)).map (fun t => (t.keyer.phase, t.keyer.amplitude, t.counter.phase)) =
      some (.falling 0, 957, 0) ∧
    (after .envelopeSegment (shaping (.falling 7))).map (fun t => (t.keyer.phase, t.keyer.amplitude, t.counter.phase)) =
      some (.hold, 150, 20000) ∧
    (after .envelopeSegment (shaping .hold)).map (fun t => (t.keyer.phase, t.keyer.amplitude, t.counter.phase)) =
      some (.rising 0, 193, 1000000) ∧
    (after .envelopeSegment (shaping (.rising 7))).map (fun t => (t.keyer.phase, t.keyer.amplitude, t.counter.phase)) =
      some (.idle, 1000, 1020000) := by decide

/-- A change of the amplitude strobes an output that is KEYED and not one that is HELD (R146, R194). -/
theorem test_a_change_strobes_keyed_outputs :
    (after .envelopeSegment (State.withChains (shaping .idle) (fun x => { x with gating := { one := .keyed, two := .held } }))).map
      (fun t => ([t, t.reach 1, t.reach 2, t.reach 3].map (fun u => (u.strobe .one, u.ampWord .one, u.ampWord .two)))) =
      some [(.low, 957#10, 1000#10), (.high, 957#10, 1000#10), (.high, 957#10, 1000#10), (.low, 957#10, 1000#10)] := by decide

/-! ### Monitor and changeover -/

/-- The monitor input low with an interval open. -/
def listening (n : Nat) : State :=
  { fresh with
    pins := { fresh.pins with mon := .low }, counter := { phase := 1000500, length := 10000000 },
    monitor := { fresh.monitor with
      openInterval := some { phase := 500, current := true, carried := 0 },
      intervals := List.replicate n { start := 0, duration := 1 } } }

theorem test_met_MonitorTimesAnInterval :
    fresh.resetHeld = false ∧ fresh.monitor.source = .normal ∧ fresh.pins.mon = .high ∧ fresh.monitor.openInterval = none ∧
    (listening 0).pins.mon = .low ∧ (listening 0).monitor.openInterval = some { phase := 500, current := true, carried := 0 } ∧
    (after (.monitorTransition .rising) (listening 3)).map (fun t => (t.monitor.intervals.length, t.monitor.overflow)) =
      some (4, false) ∧
    (after (.monitorTransition .rising) (listening 4)).map (fun t => (t.monitor.intervals.length, t.monitor.overflow)) =
      some (4, true) ∧
    (after (.monitorTransition .rising) (listening 0)).map (fun t => t.monitor.intervals) =
      some [{ start := 500, duration := 1000000 }] := by decide

/-- The symbol observed in a second with these intervals, at the tolerance 20,000. -/
def heardIn (is : List Interval) : Observed := { fresh.monitor with intervals := is }.observed

/-- R155: the places and the tolerance, at their bounds. -/
theorem test_observed_symbols :
    fresh.monitor.settings.tolerance = 20000 ∧ heardIn [] = .none ∧
    heardIn [⟨0, 5000000⟩] = .minute ∧ heardIn [⟨-20000, 5020000⟩] = .minute ∧ heardIn [⟨20001, 5000000⟩] = .invalid ∧
    heardIn [⟨0, 5020001⟩] = .invalid ∧ heardIn [⟨0, 5000000⟩, ⟨0, 1000000⟩] = .invalid ∧
    heardIn [⟨20000, 980000⟩] = .mark false false ∧ heardIn [⟨0, 979999⟩] = .invalid ∧
    heardIn [⟨0, 1000000⟩, ⟨2020000, 1000000⟩] = .mark true false ∧
    heardIn [⟨0, 1000000⟩, ⟨4000000, 1020000⟩] = .mark false true ∧
    heardIn [⟨4000000, 1000000⟩, ⟨0, 1000000⟩, ⟨1980000, 1000000⟩] = .mark true true ∧
    heardIn [⟨0, 1000000⟩, ⟨2020001, 1000000⟩] = .invalid ∧ heardIn [⟨2000000, 1000000⟩] = .invalid ∧
    heardIn [⟨0, 1000000⟩, ⟨1, 1000000⟩] = .invalid ∧
    heardIn [⟨0, 1000000⟩, ⟨2000000, 1000000⟩, ⟨2000001, 1000000⟩] = .invalid ∧
    ({ fresh.monitor with overflow := true } : Monitor).observed = .invalid ∧
    (listening 0).monitor.observed = .invalid ∧
    ({ fresh.monitor with openInterval := some { phase := 5, current := false, carried := 7 } } : Monitor).observed =
      .none := by decide

/-- A second of noon's minute under observation in which the mark was heard, with an interval still open from before. -/
def closing (second : Nat) : State :=
  let s := clock { noon with second := second }
  { s with
    monitor :=
      { s.monitor with
        intervals := [⟨0, 1000000⟩], openInterval := some { phase := 5, current := false, carried := 7 },
        keyed := { mode := .bare, symbol := .mark false false },
        observation := some { minute := noon.minute, length := none, entries := [] } } }

/-- The minute under observation, the stored verdict and what the closed interval has run, after its next epoch. -/
def closed (s : State) : Option Observation × Option Verdict × Option Nat :=
  let t := s.epochInOrder [.settings, .maintenance, .monitor]
  (t.monitor.observation, t.monitor.record.map (fun r => r.verdict), t.monitor.openInterval.map (fun o => o.carried))

/-- R156: a closed second enters the minute under observation, and a boundary judges it. -/
theorem test_closed_seconds_enter_the_minute :
    closed (closing 57) =
      (some { minute := noon.minute, length := none, entries :=
          [{ second := 57, observed := .mark false false, keyed := { mode := .bare, symbol := .mark false false } }] },
        none, some 10000007) ∧
    closed (closing 58) =
      (some { minute := noon.minute, length := some 60, entries :=
          [{ second := 58, observed := .mark false false, keyed := { mode := .bare, symbol := .mark false false } }] },
        none, some 10000007) ∧
    closed (closing 59) = (some { minute := noon.minute + 1, length := none, entries := [] }, some .good, some 10000007) ∧
    (closing 59).keyer.nextPoint = none ∧ (closing 59).monitor.source = .normal := by decide

/-- A drop in LOOP at a phase of the shaper with its amplitude, an interval open or not. -/
def looping (ph : EnvPhase) (amplitude : Nat) (o : Option OpenInterval) (n : Nat) : State :=
  { shaping ph with
    keyer := { (shaping ph).keyer with amplitude := amplitude },
    monitor :=
      { fresh.monitor with
        source := .loop, settings := { fresh.monitor.settings with delay := 9 }, openInterval := o,
        intervals := List.replicate n ⟨0, 1⟩ } }

/-- The open interval, the intervals and the overflow after the next segment point. -/
def looped (s : State) : Option (Option OpenInterval × List Interval × Bool) :=
  (after .envelopeSegment s).map (fun t => (t.monitor.openInterval, t.monitor.intervals, t.monitor.overflow))

/-- R154, R155: LOOP sees the amplitude cross (1000 + 150) div 2 = 575: falling segment 3 presents 575 and is not below it, falling segment 4 presents 405; rising segment 3 presents 575 again. -/
theorem test_loop_sees_the_envelope :
    [looping (.falling 2) 745 none 0, looping (.falling 3) 575 none 0,
     looping (.rising 1) 278 (some { phase := 10000, current := true, carried := 0 }) 0,
     looping (.rising 2) 405 (some { phase := 10000, current := true, carried := 0 }) 0,
     looping (.rising 2) 405 (some { phase := 10000, current := true, carried := 0 }) 4,
     looping (.rising 2) 405 (some { phase := 10000, current := false, carried := 5 }) 0,
     looping (.rising 2) 405 none 0].map looped =
      [some (none, [], false), some (some { phase := 10000, current := true, carried := 0 }, [], false),
       some (some { phase := 10000, current := true, carried := 0 }, [], false),
       some (none, [⟨10000, 997500⟩], false), some (none, List.replicate 4 ⟨0, 1⟩, true), some (none, [], false),
       some (none, [], false)] := by decide

theorem test_loop_does_not_watch_the_line :
    (after (.monitorTransition .falling) (looping .idle 1000 none 0)).map (fun t => t.monitor) =
      some (looping .idle 1000 none 0).monitor := by decide

/-- R154: the open interval survives a boundary that keeps the source, and is discarded where the source changes. -/
theorem test_source_changes_at_a_boundary :
    (closed (closing 59)).2.2 = some 10000007 ∧
    (closed (State.withChains (closing 59) (fun x => { x with maintenance := .loop }))).2.2 = none := by decide

/-- The observed symbol that a keyed one gives when it is heard. -/
def heardAs : Symbol → Observed
  | .minute => .minute
  | .mark a b => .mark a b
  | .none => .none

/-- The minute of the record, heard as keyed. -/
def entries : List Entry :=
  (List.range 60).map (fun n =>
    { second := n, observed := heardAs ((record.symbols[n]?).getD .none),
      keyed := { mode := .full, symbol := (record.symbols[n]?).getD .none } })

/-- The minute of the record, with nothing heard. -/
def silence : List Entry := entries.map (fun e => { e with observed := .none })

theorem test_met_VerdictFollowsTheTable :
    verdictOf true entries = .good ∧ verdictOf false entries = .notChecked ∧ verdictOf true silence = .absent ∧
    verdictOf true ((entries.take 1) ++ (silence.drop 1)) = .bad ∧
    verdictOf true ({ second := 0, observed := .none, keyed := { mode := .quiet, symbol := .none } } :: entries) = .notChecked := by
  decide

theorem test_met_HeardRecordDecodesToItsFields :
    record.fields.localMinute ≤ 59 ∧ record.fields.localHour ≤ 23 ∧ record.fields.localDay ≤ 31 ∧
    record.fields.weekday ≤ 7 ∧ record.fields.localMonth ≤ 12 ∧ record.fields.localYear ≤ 99 ∧
    record.fields.magnitude ≤ 56 ∧ record.fields.quality ≤ 3 ∧ record.fields.code ≤ 65535 ∧
    entries.map Entry.second = List.range 60 ∧
    (entries.all (fun e => ((symbolList record.fields (parityOf record.fields) 60)[e.second]?).any
      (fun sym => e.observed.agrees sym))) = true ∧
    (decodeMinute entries).map (fun d => (d.minuteUnits, d.hourTens, d.dayUnits, d.yearTens, d.p5Passed)) =
      some (2, 1, 7, 2, true) := by decide

theorem test_met_chain_ready :
    fresh.resetHeld = false ∧ fresh.chains.ready.get .one = .low ∧ fresh.chains.ready.get .two ≠ .high ∧
    (preparing .manual).chains.ready.get .two = .high ∧ (preparing .manual).chains.changeover = .preparing .two .manual ∧
    (after (.chainReady .two .low) (preparing .manual)).map (fun t => (t.chains.changeover, t.notices.entries.length)) =
      some (.steady, 3) := by decide

/-- A ready chain 2 and a verdict run at the threshold. -/
def failing : State := State.withChains readyTwo (fun x => { x with verdictRun := 3 })

theorem test_met_ChangeoverAtABoundary :
    ((preparing .auto).changeoverBoundary none (some noon)).chains.onAir = .two ∧
    ((preparing .auto).changeoverBoundary none (some noon)).chains.autoArm = .spent ∧
    (preparing .auto).chains.ready.get .two = .high ∧ 0 < (preparing .auto).chains.threshold ∧
    failing.chains.changeover = .steady ∧ failing.chains.threshold ≤ failing.chains.verdictRun ∧
    failing.chains.autoArm = .armed ∧ failing.chains.ready.get failing.chains.onAir.other = .high ∧
    (failing.changeoverBoundary (some .absent) (some noon)).chains.changeover = .preparing .two .auto ∧
    (failing.changeoverBoundary (some .good) (some noon)).chains.changeover = .steady ∧
    (State.withChains fresh (fun x => { x with changeover := .preparing .two .manual })).chains.ready.get .two = .low ∧
    ((State.withChains fresh (fun x => { x with standby := .cold })).changeoverBoundary none (some noon)).chains.gating =
      { one := .keyed, two := .held } := by decide

/-- The verdict run saturates at 15, is cleared by GOOD and left by NOT_CHECKED (R162). -/
theorem test_verdict_run :
    [Verdict.bad, .absent, .good, .notChecked].map (runAfter 14) = [15, 15, 0, 14] ∧
    [Verdict.bad, .absent, .good, .notChecked].map (runAfter 15) = [15, 15, 0, 15] := by decide

/-- A minute under observation with nothing heard, monitored with the threshold 1. -/
def judging : State :=
  { State.withChains readyTwo (fun x => { x with threshold := 1 }) with
    monitor := { fresh.monitor with observation := some { minute := noon.minute + 1, length := some 60, entries := silence } } }

theorem test_judged_minute :
    judging.monitor.settings.enable = true ∧ judging.chains.changeover = .steady ∧
    (judging.judge (some noon)).chains.verdictRun = 1 ∧
    (judging.judge (some noon)).chains.changeover = .preparing .two .auto ∧
    (judging.judge (some noon)).monitor.record.map (fun r => r.verdict) = some .absent := by decide

/-- R159: a stored record sets NEW, a second one OVERWRITTEN, and a failed minute posts MON_VERDICT with the run as counted. -/
theorem test_stored_records :
    ((judging.judge (some noon)).monitor.isNew, (judging.judge (some noon)).monitor.overwritten) = (true, false) ∧
    (({ judging with monitor := { judging.monitor with isNew := true } } : State).judge (some noon)).monitor.overwritten =
      true ∧
    ((judging.judge (some noon)).notices.entries.drop 1).map (fun e => (e.data, e.label)) =
      [(.monVerdict (noon.minute + 1) .absent 60 1, some noon), (.changeover .started .two, some noon)] ∧
    (({ judging with monitor := { judging.monitor with settings := { judging.monitor.settings with enable := false } } } :
      State).judge (some noon)).notices = judging.notices := by decide

/-- The notices that the changeover block posts at a boundary, with their labels. -/
def decided (s : State) (v : Option Verdict) : List (NoticeData × Option Label) :=
  ((s.changeoverBoundary v (some noon)).notices.entries.drop 1).map (fun e => (e.data, e.label))

/-- A changeover in PREPARING whose target is not ready, with the verdict run at the threshold. -/
def doomed : State := State.withChains fresh (fun x => { x with changeover := .preparing .two .manual, verdictRun := 3 })

/-- R163, R164: the CHANGEOVER notices of a boundary; one of a kind counts its occurrences. -/
theorem test_changeover_notices :
    decided (preparing .auto) (some .bad) = [(.changeover .completed .two, some noon)] ∧
    decided doomed (some .good) = [(.changeover .cancelled .two, some noon)] ∧
    decided doomed (some .bad) = [(.changeover .notReady .two, some noon)] ∧
    ((doomed.changeoverBoundary (some .bad) (some noon)).notices.entries.drop 1).map (fun e => e.count) = [2] ∧
    decided failing (some .absent) = [(.changeover .started .two, some noon)] ∧
    decided (State.withChains failing (fun x => { x with ready := { one := .low, two := .low } })) (some .bad) =
      [(.changeover .notReady .two, some noon)] ∧
    decided (State.withChains failing (fun x => { x with verdictRun := 2 })) (some .bad) = [] ∧
    decided (State.withChains failing (fun x => { x with autoArm := .spent })) (some .bad) = [] ∧
    decided failing none = [] := by decide

/-- A changeover to chain 2 under preparation at the last second of a minute. -/
def lastSecond : State := { preparing .auto with time := { fresh.time with label := some { noon with second := 59 } } }

theorem test_met_OnAirChainChangesOnlyAtBoundaries :
    (∃ t, step (preparing .auto) = .next t) ∧ (preparing .auto).targetIsOther ∧
    ((lastSecond.epochInOrder [.monitor]).chains.onAir = .two ∧ lastSecond.chains.onAir = .one ∧
      isBoundary (lastSecond.epochInOrder [.monitor]).time.label = true ∧
      (lastSecond.epochInOrder [.monitor]).counter = { phase := 0, length := 10000000 } ∧
      lastSecond.chains.ready.get .two = .high) ∧
    (after .resetAsserted (State.withChains fresh (fun x => { x with onAir := .two }))).map (fun t => t.chains.onAir) =
      some .one := by
  refine ⟨⟨_, rfl⟩, ?_, by decide, by decide⟩
  intro c o h
  cases h
  rfl

theorem test_met_InvariantsHoldAfterReset :
    fresh.time.label = none ∧ fresh.chains.changeover = .steady ∧ (∀ k, fresh.slot k = none) := by decide

/-! ### Worked examples of the manual -/

/-- 10.1, R190, R192: the record worked in the manual, local 23:30 on 2100-02-28, offset -60, quality 2, chain 1, code 7. -/
def worked : CodeFields :=
  { localMinute := 30, localHour := 23, localDay := 28, weekday := 7, localMonth := 2, localYear := 0, century := true,
    offset := -60, summer := false, zoneChange := false, leap := false, leapDelete := false, chainTwo := false,
    quality := 2, present := true, code := 7 }

set_option maxRecDepth 20000 in
theorem test_worked_record_images :
    channelImage (channelA worked (parityOf worked)) = "000226002F46330".toList ∧
    channelImage (channelB worked (parityOf worked)) = "0000000010007C0".toList ∧
    channelImage (symbolsA (symbolList worked (parityOf worked) 60)) = "000226002F46330".toList ∧
    (channelA worked (parityOf worked)).countP id = 16 ∧ (channelB worked (parityOf worked)).countP id = 6 := by decide

/-- R195: bit times in ticks. -/
theorem test_bit_times : LineSpeed.bitTicks .b9600 = 1042 ∧ LineSpeed.charTicks .b115200 = 870 := by decide

/-- R177, R195: a reply's first character on the transmit line begins with its start bit. -/
theorem test_transmit_line : busy.ctx = .low ∧ fresh.ctx = .high := by decide

/-- R194: the shaper's amplitude on the ten data lines. -/
theorem test_amplitude_word : fresh.ampWord .one = 1000#10 := by decide

end Sys2Proof.Tests
end

section
/-! Proofs: the law of the label (O36): what each operation and each row of the table does to the label, the pending load and the held words. -/

namespace Sys2Proof.Machine

/-! ### One reference's record -/

/-- A reference reads back what was put in its place, and the others stay. -/
theorem State.ref_setRef (s : State) (r q : RefNo) (x : Reference) :
    (s.setRef r x).ref q = if q = r then x else s.ref q := by
  unfold State.ref State.setRef
  by_cases h : q = r
  · subst h; simp
  · have : r.val ≠ q.val := fun e => h (Fin.ext e.symm)
    simp [h, this]

/-- The references are read from the field that holds them. -/
theorem State.ref_congr {s t : State} (h : t.refs = s.refs) (r : RefNo) : t.ref r = s.ref r := by
  simp [State.ref, h]

/-- R57: of the references, a change of state replaces the one that changed. -/
@[simp] theorem State.changeRef_refs (s : State) (r : RefNo) (p : RefState) (x : Reference) (k : RefCause)
    (l : Option Label) : (s.changeRef r p x k l).refs = s.refs.set r x := by
  simp [State.changeRef]

theorem State.ref_changeRef (s : State) (r q : RefNo) (p : RefState) (x : Reference) (k : RefCause) (l : Option Label) :
    (s.changeRef r p x k l).ref q = if q = r then x else s.ref q :=
  (State.ref_congr (t := s.changeRef r p x k l) (s := s.setRef r x) (by simp) q).trans (s.ref_setRef r q x)

/-! ### Labels in range -/

/-- R22: a day lies in the range exactly when its minutes do. -/
theorem dayInRange_dayOfMinute {m : Nat} : dayInRange (dayOfMinute m) = true ↔ 1440 ≤ m ∧ m ≤ lastMinute := by
  unfold dayInRange dayOfMinute lastMinute
  rw [Bool.and_eq_true, decide_eq_true_eq, decide_eq_true_eq]
  omega

/-- R20, R21: one second on, the second is 0..60 again. -/
theorem advance_second_le (slots : Vector (Option Slot) 8) (l : Label) : (advance slots l).second ≤ 60 := by
  unfold advance
  split
  · split <;> simp
  · split
    · split <;> simp
    · split
      · simp
      · simp only; omega

/-- R20: the minute never goes back. -/
theorem le_advance_minute (slots : Vector (Option Slot) 8) (l : Label) : l.minute ≤ (advance slots l).minute := by
  unfold advance
  split
  · split <;> simp
  · split
    · split <;> simp
    · split <;> simp

/-- R22: the advance keeps a label in the range, or leaves none. -/
theorem advanceInRange_inRange {slots : Vector (Option Slot) 8} {l n : Label} (hl : l.inRange)
    (h : advanceInRange slots l = some n) : n.inRange := by
  unfold advanceInRange at h
  split at h
  · rename_i hle
    obtain rfl := Option.some.inj h
    exact ⟨Nat.le_trans hl.1 (le_advance_minute slots l), hle, advance_second_le slots l⟩
  · cases h

/-- R45: a word that can be read names a second 0..60. -/
theorem readWord_second_le {t : Text} {w : TimeWord} (h : readWord t = some w) : w.second ≤ 60 := by
  unfold readWord at h
  split at h
  · split at h
    · split at h
      · rename_i hv
        obtain rfl := Option.some.inj h
        exact hv.2.2.2
      · cases h
    · cases h
  · cases h

/-- R33: the target that a word asks for has a second 0..60. -/
theorem State.loadTarget_second_le {s : State} {w : TimeWord} {side : Side} {m : Mask} {l : Label}
    (hw : w.second ≤ 60) (h : s.loadTarget w side m = some l) : l.second ≤ 60 := by
  have own : (w.nextEpochLabel s.slots side).second ≤ 60 := by
    cases side
    · exact advance_second_le s.slots w.label
    · exact hw
  unfold State.loadTarget at h
  dsimp only at h
  split at h
  · obtain rfl := Option.some.inj h
    exact own
  · obtain ⟨n, -, rfl⟩ := Option.map_eq_some_iff.1 h
    exact own

/-- R32: the target that a SETT names has a second 0..59. -/
theorem settTarget_second_le {f : List Text} {l : Label} (h : settTarget f = some l) : l.second ≤ 59 := by
  unfold settTarget at h
  split at h
  · unfold readSett at h
    split at h
    · split at h
      · rename_i hv
        obtain rfl := Option.some.inj h
        exact hv.2.2
      · cases h
    · cases h
  · cases h

/-! ### What the law of the label looks at -/

/-- The law of the label speaks of the label, the pending load and the held words alone. -/
theorem State.timeBounded_of_eq {s t : State} (h : s.timeBounded) (hl : t.time.label = s.time.label)
    (hp : t.time.pending = s.time.pending) (hr : ∀ r, (t.ref r).held = (s.ref r).held) : t.timeBounded := by
  unfold State.timeBounded State.labelInRange at *
  simpa only [hl, hp, hr] using h

/-- What leaves the time scale and the references as they are keeps the law. -/
theorem State.timeBounded_of_frame {s t : State} (h : s.timeBounded) (ht : t.time = s.time) (hr : t.refs = s.refs) :
    t.timeBounded :=
  State.timeBounded_of_eq h (by rw [ht]) (by rw [ht]) (fun r => by rw [State.ref_congr hr])

/-- A reference may be replaced by one whose held word, if any, names a second 0..60. -/
theorem State.timeBounded_of_ref {s t : State} {r : RefNo} {x : Reference} (h : s.timeBounded)
    (ht : t.time = s.time) (hr : t.refs = s.refs.set r x) (hx : ∀ w, x.held = some w → w.second ≤ 60) :
    t.timeBounded := by
  obtain ⟨hl, hp, hw⟩ := h
  refine ⟨by simpa only [State.labelInRange, ht] using hl, by simpa only [ht] using hp, fun q w hq => ?_⟩
  rw [State.ref_congr (s := s.setRef r x) hr, State.ref_setRef] at hq
  split at hq
  · exact hx w hq
  · exact hw q w hq

theorem State.timeBounded_setRef {s : State} {r : RefNo} {x : Reference} (h : s.timeBounded)
    (hx : ∀ w, x.held = some w → w.second ≤ 60) : (s.setRef r x).timeBounded :=
  State.timeBounded_of_ref h rfl rfl hx

theorem State.timeBounded_changeRef {s : State} {r : RefNo} {p : RefState} {x : Reference} {k : RefCause}
    {l : Option Label} (h : s.timeBounded) (hx : ∀ w, x.held = some w → w.second ≤ 60) :
    (s.changeRef r p x k l).timeBounded :=
  State.timeBounded_of_ref h (by simp) (s.changeRef_refs r p x k l) hx

/-- R31: a load may be requested whose target has a second 0..60. -/
theorem State.timeBounded_requestLoad {s : State} {src : LoadSource} {l : Label} (h : s.timeBounded)
    (hl : l.second ≤ 60) : (s.requestLoad src l).timeBounded := by
  obtain ⟨hlabel, -, hw⟩ := h
  refine ⟨hlabel, fun p hp => ?_, hw⟩
  obtain rfl := Option.some.inj hp
  exact hl

/-- R187: a reset leaves no label, no pending load and no word. -/
theorem State.timeBounded_cleared (s : State) : s.cleared.timeBounded := by
  refine ⟨fun l hl => ?_, fun p hp => ?_, fun r w hw => ?_⟩
  · cases hl
  · cases hp
  · have none_held : ∀ r, (State.reset.ref r).held = none := by decide
    exact absurd (hw.symm.trans (none_held r)) (by simp)

theorem State.timeBounded_release (s : State) (src : ResetSource) (a b : Level) : (s.release src a b).timeBounded :=
  State.timeBounded_of_frame (State.timeBounded_cleared { s with pins := { s.pins with bs1 := a, bs0 := b } }) rfl rfl

/-! ### The label at an epoch -/

/-- R20: the label after the advance is the next label. -/
theorem State.advanceLabel_label (s : State) : s.advanceLabel.time.label = s.nextLabel := by
  unfold State.advanceLabel State.nextLabel
  split
  · rename_i h; simp [h]
  · rename_i l h
    rw [h, Option.bind_some]
    split <;> rename_i h' <;> simp [h']

@[simp] theorem State.advanceLabel_pending_load (s : State) : s.advanceLabel.time.pending = s.time.pending := by
  unfold State.advanceLabel
  split
  · rfl
  · split <;> rfl

/-- R22: the advance keeps the law. -/
theorem State.timeBounded_advanceLabel {s : State} (h : s.timeBounded) : s.advanceLabel.timeBounded := by
  obtain ⟨hl, hp, hw⟩ := h
  refine ⟨fun n hn => ?_, by simpa using hp, fun r w => ?_⟩
  · rw [State.advanceLabel_label] at hn
    obtain ⟨l, hs, ha⟩ := Option.bind_eq_some_iff.1 hn
    exact advanceInRange_inRange (hl l hs) ha
  · rw [State.ref_congr (s := s) (by simp)]
    exact hw r w

/-- R104, R105: an action of a load leaves the label and the pending load as they are. -/
theorem State.loadAction_label_pending (s : State) (p : PendingLoad) (a : LoadAction) :
    (State.loadAction p s a).time.label = s.time.label ∧ (State.loadAction p s a).time.pending = s.time.pending := by
  cases a with
  | report => exact ⟨rfl, rfl⟩
  | endSlot k =>
    unfold State.loadAction State.endAtLoad
    dsimp only
    split
    · exact ⟨rfl, rfl⟩
    · split <;> simp

/-- R34: after a performed load the label is the target, and the pending load is as it was. -/
theorem State.performLoad_label_pending (s : State) (p : PendingLoad) :
    (s.performLoad p).time.label = some p.target ∧ (s.performLoad p).time.pending = s.time.pending := by
  simp only [State.performLoad, State.clearIfHost_frame, State.markStale_time]
  exact
    ⟨foldl_keeps (fun t : State => t.time.label) _ (fun t a => (t.loadAction_label_pending p a).1) _ _,
      foldl_keeps (fun t : State => t.time.pending) _ (fun t a => (t.loadAction_label_pending p a).2) _ _⟩

/-- R34: a load that is not declined has its target in the range. -/
theorem State.target_inRange {s : State} {p : PendingLoad} (hp : p.target.second ≤ 60)
    (h : s.declineReason p = none) : p.target.inRange := by
  unfold State.declineReason at h
  split at h
  · cases h
  · split at h
    · cases h
    · rename_i hd
      obtain ⟨h1, h2⟩ := dayInRange_dayOfMinute.1 (Bool.of_not_eq_false hd)
      exact ⟨h1, h2, hp⟩

/-- R31: with no load pending the law says the same of the label and the words. -/
theorem State.timeBounded_noLoad {s : State} (h : s.timeBounded) :
    ({ s with time := { s.time with pending := none } } : State).timeBounded :=
  ⟨h.1, ⟨fun _ hp => absurd hp (by simp), h.2.2⟩⟩

/-- R20, R31, R34: the time scale's part of an epoch keeps the law. -/
theorem State.timeBounded_timeStep {s : State} (h : s.timeBounded) : s.timeStep.state.timeBounded := by
  have hn := State.timeBounded_noLoad h
  unfold State.timeStep
  dsimp only
  split
  · exact State.timeBounded_advanceLabel hn
  · rename_i p hp
    split
    · exact State.timeBounded_advanceLabel (State.timeBounded_of_frame hn rfl rfl)
    · rename_i hd
      split
      · unfold State.unchangedLoad
        dsimp only
        split
        · exact State.timeBounded_of_frame (State.timeBounded_advanceLabel hn) rfl rfl
        · exact State.timeBounded_advanceLabel hn
      · have ht := State.target_inRange (h.2.1 p hp) hd
        generalize hs' : ({ s with time := { s.time with pending := none } } : State) = s' at hn ⊢
        obtain ⟨hl, hpend⟩ := s'.performLoad_label_pending p
        refine ⟨fun l hl' => ?_, by rw [hpend]; exact hn.2.1, fun r w => ?_⟩
        · obtain rfl := Option.some.inj (hl.symm.trans hl')
          exact ht
        · rw [State.ref_congr (s := s') (by simp)]
          exact hn.2.2 r w

/-- R102: a slot's move at a boundary leaves the label and the pending load as they are. -/
theorem State.slotAtBoundary_label_pending (s : State) (m : Nat) (l : Option Label) (k : SlotNo) :
    (State.slotAtBoundary m l s k).time.label = s.time.label ∧
      (State.slotAtBoundary m l s k).time.pending = s.time.pending := by
  unfold State.slotAtBoundary
  split
  · exact ⟨rfl, rfl⟩
  · split <;> (try split) <;> simp

/-- R102, R103: so does the table at an epoch. -/
theorem State.tableEpoch_label_pending (s : State) (l : Option Label) :
    (s.tableEpoch l).time.label = s.time.label ∧ (s.tableEpoch l).time.pending = s.time.pending := by
  unfold State.tableEpoch
  split
  · split
    · exact
        ⟨foldl_keeps (fun t : State => t.time.label) _ (fun t k => (t.slotAtBoundary_label_pending _ _ k).1) _ _,
          foldl_keeps (fun t : State => t.time.pending) _ (fun t k => (t.slotAtBoundary_label_pending _ _ k).2) _ _⟩
    · exact ⟨rfl, rfl⟩
  · exact ⟨rfl, rfl⟩

/-- R102: of the time scale, a reaction to an epoch can only touch the zone state. -/
theorem State.react_label_pending (c : EpochCtx) (s : State) (x : Reaction) :
    (s.react c x).time.label = s.time.label ∧ (s.react c x).time.pending = s.time.pending := by
  cases x with
  | table => exact s.tableEpoch_label_pending c.label
  | rangeEnd =>
    simp only [State.react]
    split <;> simp
  | _ => simp [State.react]

/-! ### The words held -/

theorem Reference.move_held (x : Reference) (cls : Review) : (x.move cls).1.held = x.held := by
  unfold Reference.move Reference.moveBy Reference.miss Reference.lose
  repeat' split
  all_goals rfl

/-- R50: a review leaves the word that a reference holds. -/
theorem State.ref_review_held (s : State) (r q : RefNo) (st : Bool) (w : Nat) (a : Int) (l : Option Label) :
    ((s.review r st w a l).ref q).held = (s.ref q).held := by
  have same : ∀ x : Reference, x.held = (s.ref r).held → (if q = r then x else s.ref q).held = (s.ref q).held := by
    intro x hx
    split
    · rename_i h; subst h; exact hx
    · rfl
  have reviewed : ((s.ref r).reviewed w a).1.held = (s.ref r).held := Reference.move_held _ _
  unfold State.review
  dsimp only
  split
  · rfl
  · split
    · rw [State.ref_setRef]; exact same _ rfl
    · split
      · rw [State.ref_setRef]; exact same _ rfl
      · split <;> rename_i hm <;> rw [hm] at reviewed
        · rw [State.ref_setRef]; exact same _ reviewed
        · rw [State.ref_changeRef]; exact same _ reviewed

/-- No reaction to an epoch touches a held word. -/
theorem State.ref_react_held (c : EpochCtx) (s : State) (x : Reaction) (q : RefNo) :
    ((s.react c x).ref q).held = (s.ref q).held := by
  cases x with
  | review r => exact s.ref_review_held r q _ _ _ _
  | rangeEnd =>
    refine congrArg Reference.held (State.ref_congr ?_ q)
    simp only [State.react]
    split <;> simp
  | _ => exact congrArg Reference.held (State.ref_congr (by simp [State.react]) q)

/-- R22: a local epoch keeps the law. -/
theorem State.timeBounded_localEpoch {s : State} (h : s.timeBounded) : s.localEpoch.timeBounded :=
  State.localEpoch_induct State.timeBounded
    (State.timeBounded_timeStep (State.timeBounded_of_frame h rfl rfl))
    (fun c t x ht =>
      State.timeBounded_of_eq ht (t.react_label_pending c x).1 (t.react_label_pending c x).2 (t.ref_react_held c x))

/-! ### The label in a capture -/

/-- R76: a load that a capture asks for has a target with a second 0..60. -/
theorem State.timeBounded_askLoad {s : State} {r : RefNo} {c : Capture} {m : Mask} (h : s.timeBounded)
    (hc : ∀ w, c.word = some w → w.second ≤ 60) : (s.askLoad r c m).timeBounded := by
  unfold State.askLoad
  split
  · exact h
  · rename_i w hw
    split
    · exact h
    · rename_i l hl
      exact State.timeBounded_requestLoad h (State.loadTarget_second_le (hc w hw) hl)

/-- R65: a correction sets the running length alone. -/
theorem State.timeBounded_corrected {s : State} (c : Int) (h : s.timeBounded) : (s.corrected c).state.timeBounded :=
  State.timeBounded_of_frame h rfl rfl

theorem State.timeBounded_checkLock {s : State} (h : s.timeBounded) : s.checkLock.timeBounded :=
  State.timeBounded_of_frame h (by simp) (by simp)

/-- R55, R71: a rejection keeps the word that the reference holds. -/
theorem State.timeBounded_rejectRef {s : State} (r : RefNo) (h : s.timeBounded) : (s.rejectRef r).timeBounded :=
  State.timeBounded_changeRef h (h.2.2 r)

/-- R73: a first capture leaves the time scale and the references. -/
theorem State.firstCapture_time_refs (s : State) (e : Int) :
    (s.firstCapture e).state.time = s.time ∧ (s.firstCapture e).state.refs = s.refs := by
  unfold State.firstCapture
  dsimp only
  split
  · split <;> simp [State.corrected]
  · simp [State.uncorrected]

theorem State.timeBounded_trackCapture {s : State} (r : RefNo) (e : Int) (h : s.timeBounded) :
    (s.trackCapture r e).state.timeBounded := by
  unfold State.trackCapture
  dsimp only
  split
  · exact State.timeBounded_of_frame h rfl rfl
  · split
    · exact State.timeBounded_of_frame h rfl rfl
    · exact State.timeBounded_rejectRef r (State.timeBounded_of_frame h rfl rfl)

/-- R72, R74 to R77: a capture in ACQUIRE can only ask for a load. -/
theorem State.timeBounded_acquireCapture {s : State} {r : RefNo} {c : Capture} {m : Mask} {first : Bool}
    (h : s.timeBounded) (hc : ∀ w, c.word = some w → w.second ≤ 60) :
    (s.acquireCapture r c m first).state.timeBounded := by
  unfold State.acquireCapture
  split
  · exact h
  · split
    · exact State.timeBounded_corrected _ (State.timeBounded_askLoad (State.timeBounded_of_frame h rfl rfl) hc)
    · exact State.timeBounded_corrected _ (State.timeBounded_checkLock
        (State.timeBounded_askLoad (State.timeBounded_of_frame h rfl rfl) hc))

/-- R69: a capture handed on keeps the law where its word, if any, names a second 0..60. -/
theorem State.timeBounded_takeCapture {s : State} {r : RefNo} {c : Capture} {m : Mask} {first : Bool}
    (h : s.timeBounded) (hc : ∀ w, c.word = some w → w.second ≤ 60) :
    (s.takeCapture r c m first).state.timeBounded := by
  have hfirst : (s.firstCapture c.offset).state.timeBounded :=
    State.timeBounded_of_frame h (s.firstCapture_time_refs c.offset).1 (s.firstCapture_time_refs c.offset).2
  unfold State.takeCapture
  split
  · exact State.timeBounded_of_frame h (by simp [State.uncorrected]) (by simp [State.uncorrected])
  · exact State.timeBounded_acquireCapture h hc
  · split
    · exact hfirst
    · exact State.timeBounded_trackCapture r c.offset h
  · split
    · exact hfirst
    · exact h

/-- R49: an edge event hands on the word that the reference held. -/
theorem State.timeBounded_edgeEvent {s : State} (r : RefNo) (h : s.timeBounded) : (s.edgeEvent r).state.timeBounded := by
  have recorded : ((s.checkLeapMark r (s.ref r).state (s.captureOf (s.ref r))).setRef r
      ((s.ref r).capture (s.captureOf (s.ref r)))).timeBounded :=
    State.timeBounded_setRef (State.timeBounded_of_frame h (by simp) (by simp))
      (fun w (hw : none = some w) => by cases hw)
  unfold State.edgeEvent
  dsimp only
  split
  · exact State.timeBounded_takeCapture recorded (h.2.2 r)
  · exact recorded

theorem CaptureStep.timeBounded_finish {c : CaptureStep} (h : c.state.timeBounded) : c.finish.timeBounded := by
  unfold CaptureStep.finish
  split
  · exact State.timeBounded_localEpoch h
  · exact h

/-! ### Words taken -/

/-- R45: the word held at the end of an assembly names a second 0..60. -/
theorem Reference.endWord_second_le (x : Reference) (word : Option Text) {w : TimeWord}
    (h : (x.endWord word).held = some w) : w.second ≤ 60 := by
  obtain ⟨t, -, ht⟩ := Option.bind_eq_some_iff.1 h
  exact readWord_second_le ht

/-- R44: a character leaves the held word, or ends the assembly. -/
theorem Reference.takeChar_second_le {x : Reference} (ch : RxChar) (hx : ∀ w, x.held = some w → w.second ≤ 60)
    {w : TimeWord} (h : (x.takeChar ch).held = some w) : w.second ≤ 60 := by
  unfold Reference.takeChar at h
  split at h
  · split at h <;> exact hx w h
  · rename_i t ht
    split at h
    · exact x.endWord_second_le none h
    · split at h
      · exact x.endWord_second_le none h
      · split at h
        · split at h
          · exact x.endWord_second_le (some t) h
          · exact x.endWord_second_le none h
        · split at h
          · exact hx w h
          · exact x.endWord_second_le none h

theorem State.timeBounded_receiveWordChar {s : State} (r : RefNo) (ch : RxChar) (h : s.timeBounded) :
    (s.receiveWordChar r ch).timeBounded := by
  unfold State.receiveWordChar
  split
  · exact State.timeBounded_setRef h (fun w => Reference.takeChar_second_le ch (h.2.2 r))
  · exact h

/-! ### The label under the commands -/

/-- R40: settings and priority leave a reference's word; an enable and a disable clear it. -/
theorem State.timeBounded_setPriority {s : State} (r : RefNo) (p : Nat) (h : s.timeBounded) :
    (s.setPriority r p).timeBounded := by
  unfold State.setPriority
  split
  · exact h
  · exact State.timeBounded_of_ref (x := { s.ref r with priority := p }) h (by simp) (by simp; rfl) (h.2.2 r)

theorem State.timeBounded_setEnable {s : State} (r : RefNo) (on : Bool) (h : s.timeBounded) :
    (s.setEnable r on).timeBounded := by
  have noWord : ∀ w : TimeWord, (none : Option TimeWord) = some w → w.second ≤ 60 := fun w hw => by cases hw
  unfold State.setEnable
  dsimp only
  split
  · split
    · exact State.timeBounded_changeRef h noWord
    · exact h
  · split
    · exact h
    · exact State.timeBounded_changeRef h noWord

theorem State.timeBounded_setEnablePriority {s : State} (r : RefNo) (on : Option Bool) (p : Option Nat)
    (h : s.timeBounded) : (s.setEnablePriority r on p).timeBounded := by
  have counted : s.countFree.timeBounded := State.timeBounded_of_frame h rfl rfl
  unfold State.setEnablePriority
  split
  · unfold State.setBoth
    split
    · exact State.timeBounded_setEnable r _ (State.timeBounded_setPriority r _ counted)
    · exact State.timeBounded_setPriority r _ (State.timeBounded_setEnable r _ counted)
  · exact State.timeBounded_setEnable r _ h
  · exact State.timeBounded_setPriority r _ h
  · exact h

/-- R32: SETT. -/
theorem ownSett_timeBounded (f : List Text) {s : State} (h : s.timeBounded) : (ownSett f s).state.timeBounded := by
  unfold ownSett
  split
  · exact h
  · split
    · exact h
    · rename_i l hl
      exact State.timeBounded_requestLoad h (Nat.le_trans (settTarget_second_le hl) (by decide))

/-- R28: ZONC leaves the label and the pending load. -/
theorem ownZonc_timeBounded (f : List Text) {s : State} (h : s.timeBounded) : (ownZonc f s).state.timeBounded := by
  unfold ownZonc
  dsimp only
  split
  · exact h
  · split
    · exact h
    · exact State.timeBounded_of_eq h rfl rfl (fun _ => rfl)

/-- R40: REFC. -/
theorem ownRefc_timeBounded (f : List Text) {s : State} (h : s.timeBounded) : (ownRefc f s).state.timeBounded := by
  unfold ownRefc
  split
  · rename_i r _ _
    exact State.timeBounded_setEnablePriority r _ _ (State.timeBounded_setRef h (h.2.2 r))
  · exact h

/-- R173: no other command touches the time scale or a reference. -/
theorem ownerOf_time_refs (c : Command) (f : List Text) (s : State) (hs : c ≠ .sett) (hz : c ≠ .zonc) (hr : c ≠ .refc) :
    (ownerOf c f s).state.time = s.time ∧ (ownerOf c f s).state.refs = s.refs := by
  cases c with
  | sett => exact absurd rfl hs
  | zonc => exact absurd rfl hz
  | refc => exact absurd rfl hr
  | stat => simp only [ownerOf, ownStat]; split <;> exact ⟨rfl, rfl⟩
  | refs => simp only [ownerOf, ownRefs]; split <;> exact ⟨rfl, rfl⟩
  | selc => simp only [ownerOf, ownSelc]; split <;> simp [State.refuse, State.accept]
  | disc => simp only [ownerOf, ownDisc]; split <;> (try split) <;> exact ⟨rfl, rfl⟩
  | annw =>
    simp only [ownerOf, ownAnnw]
    split <;> (try split) <;> (try split) <;> (try split) <;> exact ⟨rfl, rfl⟩
  | annr => simp only [ownerOf, ownAnnr]; split <;> exact ⟨rfl, rfl⟩
  | annc => simp only [ownerOf, ownAnnc]; split <;> (try split) <;> exact ⟨rfl, rfl⟩
  | keyc => simp only [ownerOf, ownKeyc]; split <;> (try split) <;> exact ⟨rfl, rfl⟩
  | outc => simp only [ownerOf, ownOutc]; split <;> (try split) <;> (try split) <;> exact ⟨rfl, rfl⟩
  | monc => simp only [ownerOf, ownMonc]; split <;> (try split) <;> exact ⟨rfl, rfl⟩
  | monr =>
    simp only [ownerOf, ownMonr, State.clearMonFlags]
    split <;> (try split) <;> exact ⟨rfl, rfl⟩
  | recr => simp only [ownerOf, ownRecr]; split <;> exact ⟨rfl, rfl⟩
  | mntc => simp only [ownerOf, ownMntc]; split <;> exact ⟨rfl, rfl⟩
  | note => simp only [ownerOf, ownNote]; split <;> (try split) <;> exact ⟨rfl, rfl⟩
  | nmsk => simp only [ownerOf, ownNmsk]; split <;> (try split) <;> exact ⟨rfl, rfl⟩
  | rset => simp only [ownerOf, ownRset]; split <;> exact ⟨rfl, rfl⟩

/-- R22: every owner's action keeps the law. -/
theorem ownerOf_timeBounded (c : Command) (f : List Text) {s : State} (h : s.timeBounded) :
    (ownerOf c f s).state.timeBounded := by
  by_cases hs : c = .sett
  · subst hs; exact ownSett_timeBounded f h
  by_cases hz : c = .zonc
  · subst hz; exact ownZonc_timeBounded f h
  by_cases hr : c = .refc
  · subst hr; exact ownRefc_timeBounded f h
  obtain ⟨ht, hrefs⟩ := ownerOf_time_refs c f s hs hz hr
  exact State.timeBounded_of_frame h ht hrefs

theorem State.timeBounded_takeCommand {s : State} (c : Command) (f : List Text) (h : s.timeBounded) :
    (s.takeCommand c (ownerOf c f)).timeBounded := by
  have hunting : s.hunting.timeBounded := State.timeBounded_of_frame h rfl rfl
  unfold State.takeCommand
  split
  · exact h
  · split
    · exact State.timeBounded_of_frame h rfl rfl
    · exact State.timeBounded_of_frame (ownerOf_timeBounded c f hunting) rfl rfl

theorem State.timeBounded_completeRecord {s : State} (chars : Text) (overlong badChar : Bool) (h : s.timeBounded) :
    (s.completeRecord ownerOf chars overlong badChar).timeBounded := by
  have hunting : s.hunting.timeBounded := State.timeBounded_of_frame h rfl rfl
  unfold State.completeRecord
  split
  · exact h
  · split
    · exact State.timeBounded_of_frame h rfl rfl
    · split
      · exact State.timeBounded_of_frame h rfl rfl
      · exact State.timeBounded_of_frame (ownerOf_timeBounded _ _ hunting) rfl rfl

theorem State.timeBounded_receiveChar {s : State} (ch : RxChar) (h : s.timeBounded) :
    (s.receiveChar ownerOf ch).timeBounded := by
  have stored : (s.storeChar ch.code).timeBounded := by
    unfold State.storeChar
    split <;> exact State.timeBounded_of_frame h rfl rfl
  unfold State.receiveChar
  split
  · exact h
  · split
    · split
      · exact State.timeBounded_of_frame h rfl rfl
      · exact h
    · split
      · exact State.timeBounded_of_frame h rfl rfl
      · split
        · exact State.timeBounded_of_frame h rfl rfl
        · split
          · exact State.timeBounded_completeRecord _ _ _ h
          · split
            · exact stored
            · exact State.timeBounded_of_frame h rfl rfl

/-! ### The label in every step -/

theorem State.timeBounded_endReply {s : State} (h : s.timeBounded) : s.endReply.timeBounded := by
  unfold State.endReply
  split
  · exact s.timeBounded_release _ _ _
  · exact State.timeBounded_of_frame h rfl rfl

theorem State.timeBounded_segmentPoint {s : State} (h : s.timeBounded) : s.segmentPoint.timeBounded :=
  State.timeBounded_of_frame h (by simp) (by simp)

/-- R64, R144: the segment points on the way to an epoch touch the counter, the strobes, the keyer and the monitor alone. -/
@[simp] theorem State.passSegments_frame (t fuel : Nat) (s : State) :
    (State.passSegments t fuel s).time = s.time ∧ (State.passSegments t fuel s).refs = s.refs ∧ (State.passSegments t fuel s).selector = s.selector ∧
      (State.passSegments t fuel s).disc = s.disc ∧ (State.passSegments t fuel s).slots = s.slots ∧ (State.passSegments t fuel s).nextRecord = s.nextRecord ∧
      (State.passSegments t fuel s).chains = s.chains ∧ (State.passSegments t fuel s).port = s.port ∧ (State.passSegments t fuel s).notices = s.notices ∧
      (State.passSegments t fuel s).pins = s.pins ∧ (State.passSegments t fuel s).receivers = s.receivers ∧ (State.passSegments t fuel s).lines = s.lines ∧
      (State.passSegments t fuel s).resetHeld = s.resetHeld ∧ (State.passSegments t fuel s).freeCount = s.freeCount ∧ (State.passSegments t fuel s).pending = s.pending := by
  induction fuel generalizing s with
  | zero => simp [State.passSegments]
  | succ fuel ih =>
    unfold State.passSegments
    split
    · simp
    · split
      · simpa using ih s.segmentPoint
      · simp

theorem State.timeBounded_nextEpoch {s : State} (h : s.timeBounded) : s.nextEpoch.timeBounded := by
  unfold State.nextEpoch
  split
  · exact h
  · exact State.timeBounded_localEpoch (State.timeBounded_of_frame h (by simp [State.toEpoch]) (by simp [State.toEpoch]))

theorem State.timeBounded_tickEvent {s : State} (e : TickEvent) (h : s.timeBounded) : (s.tickEvent e).timeBounded := by
  cases e with
  | charSent =>
    unfold State.tickEvent
    dsimp only
    split
    · exact h
    · unfold State.nextChar
      split
      · exact State.timeBounded_of_frame h rfl rfl
      · exact State.timeBounded_endReply h
  | controlChar ch => exact State.timeBounded_receiveChar ch h
  | wordChar r ch => exact State.timeBounded_receiveWordChar r ch h
  | epoch => exact State.timeBounded_localEpoch h

theorem State.timeBounded_idle {s : State} (h : s.timeBounded) : s.idle.timeBounded := by
  unfold State.idle
  split
  · exact h
  · split
    · exact State.timeBounded_segmentPoint h
    · exact State.tick_induct State.timeBounded (State.timeBounded_of_frame h rfl rfl)
        (State.timeBounded_of_frame h rfl rfl) (fun _ e => State.timeBounded_tickEvent e)

/-- R22: every row of the table keeps the law. -/
theorem exec_timeBounded {i : Instr} {s t : State} (h : s.timeBounded) (hx : exec i s = .next t) : t.timeBounded := by
  have ite : ∀ {p : Prop} [Decidable p] {a b : State}, a.timeBounded → b.timeBounded →
      (if p then a else b).timeBounded := fun ha hb => by split <;> assumption
  cases i <;> obtain rfl := Host.Outcome.next.inj hx
  case rsetResetTaken a b => exact ite h (ite (s.timeBounded_release _ _ _) h)
  case recordNotTaken chars overlong badChar => exact State.timeBounded_completeRecord _ _ _ h
  case overrun chars => exact State.timeBounded_completeRecord _ _ _ h
  case restart => exact State.timeBounded_receiveChar _ h
  case controlCharacterReceived ch => exact State.timeBounded_receiveChar ch h
  case replySent => exact ite h (State.timeBounded_endReply h)
  case resetAsserted => exact State.timeBounded_of_frame s.timeBounded_cleared rfl rfl
  case resetReleased a b => exact ite (s.timeBounded_release _ _ _) h
  case localEpoch => exact State.timeBounded_nextEpoch h
  case timeEnd | holdoverLimitH1 | holdoverExpiry => exact ite (State.timeBounded_nextEpoch h) h
  case referenceEdge r edge =>
    have pin : (s.setEdgePin r (levelAfter edge)).timeBounded := State.timeBounded_of_frame h rfl rfl
    exact ite (CaptureStep.timeBounded_finish (State.timeBounded_edgeEvent r pin)) pin
  case wordCompletion r word => exact ite (State.timeBounded_setRef h (fun w => (s.ref r).endWord_second_le word)) h
  case wordCharacterReceived r ch => exact State.timeBounded_receiveWordChar r ch h
  case monitorTransition edge =>
    refine ite ?_ (State.timeBounded_of_frame h rfl rfl)
    cases edge <;> exact State.timeBounded_of_frame h (by simp [State.watch]) (by simp [State.watch])
  case chainReady c level =>
    exact ite (State.timeBounded_of_frame h (by simp) (by simp)) (State.timeBounded_of_frame h rfl rfl)
  case envelopeSegment => exact ite h (State.timeBounded_segmentPoint h)
  all_goals exact State.timeBounded_takeCommand _ _ h

/-- Settles O36: the label is advanced within its range or lost, and loaded only with a target in the range whose second is 0..59; so every step keeps the law. -/
theorem labelStaysInRange : Obligations.LabelStaysInRange := by
  intro s t h hx
  cases hp : s.pending with
  | nil =>
    rw [step_of_nil hp] at hx
    obtain rfl := Host.Outcome.next.inj hx
    exact State.timeBounded_idle h
  | cons c rest =>
    rw [step_of_cons hp] at hx
    exact exec_timeBounded (s := { s with pending := rest }) (State.timeBounded_of_frame h rfl rfl) hx

end Sys2Proof.Machine
end

section
/-! Proofs: SETT and ZONC (O19): what their fields are read as, and what their owners then do. -/

namespace Sys2Proof.Machine

/-! ### The fields of SETT -/

/-- R24: the bounds of a valid date. -/
theorem Date.valid_iff {d : Date} :
    d.valid = true ↔ 2000 ≤ d.year ∧ d.year ≤ 2199 ∧ 1 ≤ d.month ∧ d.month ≤ 12 ∧ 1 ≤ d.day ∧
      d.day ≤ monthLength d.year d.month := by
  simp only [Date.valid, Bool.and_eq_true, decide_eq_true_eq, and_assoc]

theorem dateText_ne_nil (d : Date) : dateText d ≠ [] := List.ne_nil_of_length_pos (by simp [dateText_length])

/-- R22: a day is in the range from 1 to 73047. -/
theorem dayInRange_iff {n : Nat} : dayInRange n = true ↔ 1 ≤ n ∧ n ≤ 73047 := by
  unfold dayInRange
  rw [Bool.and_eq_true, decide_eq_true_eq, decide_eq_true_eq]

/-- R24, R22: a valid date's text is read as its day, where that lies in the range. -/
theorem readDay_dateText {d : Date} (h : d.valid = true) :
    readDay (dateText d) = if dayInRange (dayOfDate d) = true then some (dayOfDate d) else none := by
  simp [readDay, readDate_valid h, h]

/-- The text of a time of day. -/
def timeText (h m sec : Nat) : Text := fixed 2 h ++ fixed 2 m ++ fixed 2 sec

theorem timeText_ne_nil (h m sec : Nat) : timeText h m sec ≠ [] := List.ne_nil_of_length_pos (by simp [timeText])

/-- R191: a time of day is read as one number of six digits. -/
theorem readFixed_timeText {h m sec : Nat} (hh : h < 100) (hm : m < 100) (hs : sec < 100) :
    readFixed 6 (timeText h m sec) = some (h * 10000 + m * 100 + sec) := by
  have value : digitsVal (timeText h m sec) = h * 10000 + m * 100 + sec := by
    simp only [timeText, digitsVal_append, digitsVal_fixed, fixed_length]
    omega
  rw [readFixed, if_pos ⟨by simp [timeText], by simp [timeText, fixed_digits]⟩, value]

/-- R32: what the two fields of a SETT are read as. -/
theorem readSett_texts {d : Date} {h m sec : Nat} (hd : d.valid = true) (hh : h ≤ 23) (hm : m ≤ 59) (hs : sec ≤ 60) :
    readSett (dateText d) (timeText h m sec) =
      if dayInRange (dayOfDate d) = true ∧ sec ≤ 59 then
        some { minute := minuteNumber (dayOfDate d) h m, second := sec }
      else none := by
  have e1 : (h * 10000 + m * 100 + sec) / 10000 = h := by omega
  have e2 : (h * 10000 + m * 100 + sec) / 100 % 100 = m := by omega
  have e3 : (h * 10000 + m * 100 + sec) % 100 = sec := by omega
  unfold readSett
  rw [readDay_dateText hd, readFixed_timeText (by omega) (by omega) (by omega)]
  by_cases hr : dayInRange (dayOfDate d) = true
  · simp [hr, e1, e2, e3, hh, hm]
  · simp [hr]

theorem settTarget_fields (d : Date) (h m sec : Nat) :
    settTarget [dateText d, timeText h m sec] = readSett (dateText d) (timeText h m sec) := by
  unfold settTarget
  rw [fieldAt_of_ne (t := dateText d) rfl (dateText_ne_nil d), fieldAt_of_ne (t := timeText h m sec) rfl (timeText_ne_nil h m sec)]
  rfl

/-- R32: SETT on a free line. -/
theorem execSett_free {s : State} (f : List Text) (h : s.lineFree) :
    exec (.sett f) s = .next ((ownSett f s.hunting).send .sett) :=
  congrArg Host.Outcome.next (State.takeCommand_free .sett (ownSett f) h)

/-- R32: in TRACK and HOLDOVER it is refused. -/
theorem ownSett_tracking {s : State} (f : List Text) (h : s.disc.state = .track ∨ s.disc.state = .holdover) :
    ownSett f s = s.refuse .state := by
  rcases h with h | h <;> simp [ownSett, h, DiscState.tracking]

/-- R32: otherwise its target decides. -/
theorem ownSett_target {s : State} (f : List Text) (h : s.disc.state = .free ∨ s.disc.state = .acquire) :
    ownSett f s =
      match settTarget f with
      | none => s.refuse .range
      | some l => (s.requestLoad .host l).accept [] := by
  rcases h with h | h <;> simp only [ownSett, h, DiscState.tracking] <;> rfl

/-- R32: SETT with a valid date and time of day. -/
theorem execSett_cases {s : State} {d : Date} {h m sec : Nat} (hf : s.lineFree) (hd : d.valid = true) (hh : h ≤ 23)
    (hm : m ≤ 59) (hs : sec ≤ 60) :
    ((s.disc.state = .track ∨ s.disc.state = .holdover) →
      exec (.sett [dateText d, timeText h m sec]) s = .next (s.replied .sett .state [])) ∧
    ((s.disc.state = .free ∨ s.disc.state = .acquire) →
      (dayInRange (dayOfDate d) = true → sec ≤ 59 →
        exec (.sett [dateText d, timeText h m sec]) s = .next
          ((s.requestLoad .host { minute := minuteNumber (dayOfDate d) h m, second := sec }).replied .sett .ok [])) ∧
      (¬(dayInRange (dayOfDate d) = true ∧ sec ≤ 59) →
        exec (.sett [dateText d, timeText h m sec]) s = .next (s.replied .sett .range []))) := by
  rw [execSett_free _ hf]
  refine ⟨fun ht => ?_, fun ht => ⟨fun hr hsec => ?_, fun hn => ?_⟩⟩
  · rw [ownSett_tracking _ (s := s.hunting) ht, State.refuse_send]
  · rw [ownSett_target _ (s := s.hunting) ht, settTarget_fields, readSett_texts hd hh hm hs, if_pos ⟨hr, hsec⟩]
    rfl
  · rw [ownSett_target _ (s := s.hunting) ht, settTarget_fields, readSett_texts hd hh hm hs, if_neg hn]
    rfl

/-! ### The ZONE slots that are active -/

theorem insertByMinute_ne_nil {α : Type} (p : Nat × α) (ps : List (Nat × α)) : insertByMinute p ps ≠ [] := by
  cases ps with
  | nil => simp [insertByMinute]
  | cons q qs =>
    unfold insertByMinute
    split <;> simp

/-- Sorting leaves none exactly where there is none. -/
theorem sortByMinute_eq_nil {α : Type} {ps : List (Nat × α)} : sortByMinute ps = [] ↔ ps = [] := by
  cases ps with
  | nil => simp [sortByMinute]
  | cons p ps => simp [sortByMinute, insertByMinute_ne_nil]

/-- R87: a slot is active unless it is DONE. -/
theorem SlotState.active_iff {st : SlotState} : st.active = true ↔ ∀ o, st ≠ .done o := by
  cases st <;> simp [SlotState.active]

/-- R92: a slot counts as a ZONE slot exactly where it is active with ZONE content. -/
theorem Slot.zonePart_eq_some {x : Slot} {p : Nat × Zone} :
    x.zonePart = some p ↔ x.state.active = true ∧ ∃ w, x.content = .zone p.1 p.2 w := by
  obtain ⟨st, content, carried⟩ := x
  obtain ⟨e, z⟩ := p
  unfold Slot.zonePart
  cases content with
  | zone e' z' w =>
    by_cases ha : st.active = true <;> simp [ha]
  | leap d dir w => simp
  | service a b c => simp

/-- R28: a ZONE slot is active exactly where some slot is one and not DONE. -/
theorem anyActiveZone_iff {s : State} :
    anyActiveZone s.slots = true ↔
      ∃ k e z w st c, s.slot k = some { state := st, content := .zone e z w, carried := c } ∧ ∀ o, st ≠ .done o := by
  have some_part : anyActiveZone s.slots = true ↔ ∃ o ∈ s.slots.toList, ∃ p, o.bind Slot.zonePart = some p := by
    have nonempty : anyActiveZone s.slots = true ↔ s.slots.toList.filterMap (fun o => o.bind Slot.zonePart) ≠ [] := by
      simp only [anyActiveZone, Bool.not_eq_true', List.isEmpty_eq_false_iff, ne_eq, zoneSchedule, sortByMinute_eq_nil,
        slotList]
    rw [nonempty]
    constructor
    · intro hne
      obtain ⟨p, hp⟩ := List.exists_mem_of_ne_nil _ hne
      obtain ⟨o, ho, hop⟩ := List.mem_filterMap.1 hp
      exact ⟨o, ho, p, hop⟩
    · rintro ⟨o, ho, p, hop⟩
      exact List.ne_nil_of_mem (List.mem_filterMap.2 ⟨o, ho, hop⟩)
  rw [some_part]
  constructor
  · rintro ⟨o, ho, ⟨e, z⟩, hp⟩
    obtain ⟨x, rfl, hx⟩ := Option.bind_eq_some_iff.1 hp
    obtain ⟨ha, w, hc⟩ := Slot.zonePart_eq_some.1 hx
    obtain ⟨k, hk, hget⟩ := List.mem_iff_getElem.1 ho
    have hk8 : k < 8 := by simpa using hk
    refine ⟨⟨k, hk8⟩, e, z, w, x.state, x.carried, ?_, SlotState.active_iff.1 ha⟩
    rw [← hc]
    simpa [State.slot] using hget
  · rintro ⟨k, e, z, w, st, c, hk, ha⟩
    refine ⟨s.slot k, ?_, (e, z), ?_⟩
    · exact Vector.mem_toList_iff.2 (Vector.getElem_mem k.isLt)
    · rw [hk, Option.bind_some]
      exact Slot.zonePart_eq_some.2 ⟨SlotState.active_iff.2 ha, w, rfl⟩

/-! ### The fields of ZONC -/

theorem signed_ne_nil (z : Int) : signed z ≠ [] := by simp [signed]

/-- R28: an offset's text is read back where it lies in its range. -/
theorem readOffset_signed {z : Int} (h : z.natAbs ≤ 999999999) :
    readOffset (signed z) = if -720 ≤ z ∧ z ≤ 840 ∧ z % 15 = 0 then some z else none := by
  simp only [readOffset, readSigned_signed h]

theorem readName_zoneText (z : Zone) : readName zoneText [.standard, .summer] (zoneText z) = some z := by
  cases z <;> decide

theorem zoneText_ne_nil (z : Zone) : zoneText z ≠ [] := by
  cases z <;> decide

theorem execZonc_free {s : State} (f : List Text) (h : s.lineFree) :
    exec (.zonc f) s = .next ((ownZonc f s.hunting).send .zonc) :=
  congrArg Host.Outcome.next (State.takeCommand_free .zonc (ownZonc f) h)

/-- R28: with two offsets in their range, ZONC sets all it gives, or is refused for its zone state. -/
theorem ownZonc_fine {s : State} {a b : Int} {z : Zone} (ha : readOffset (signed a) = some a)
    (hb : readOffset (signed b) = some b) :
    ownZonc [signed a, signed b, zoneText z] s =
      if z ≠ s.time.zone ∧ anyActiveZone s.slots = true then s.refuse .order
      else
        ({ s with time := { s.time with standardOffset := a, summerOffset := b, zone := z } } : State).accept
          [signed a, signed b, zoneText z] := by
  have h1 : optField [signed a, signed b, zoneText z] 1 readOffset = .value a := by
    rw [optField_of_ne _ (t := signed a) rfl (signed_ne_nil a), ha]; rfl
  have h2 : optField [signed a, signed b, zoneText z] 2 readOffset = .value b := by
    rw [optField_of_ne _ (t := signed b) rfl (signed_ne_nil b), hb]; rfl
  have h3 : optField [signed a, signed b, zoneText z] 3 (readName zoneText [.standard, .summer]) = .value z := by
    rw [optField_of_ne _ (t := zoneText z) rfl (zoneText_ne_nil z), readName_zoneText]; rfl
  unfold ownZonc
  rw [h1, h2, h3]
  rfl

/-- R28: an offset outside its range. -/
theorem ownZonc_badOffset {s : State} {a : Int} {t u : Text} (ha : readOffset (signed a) = none) :
    ownZonc [signed a, t, u] s = s.refuse .range := by
  have h1 : optField [signed a, t, u] 1 readOffset = .bad := by
    rw [optField_of_ne _ (t := signed a) rfl (signed_ne_nil a), ha]; rfl
  unfold ownZonc
  rw [h1]
  simp [Opt.fine]

/-- R28: with no field ZONC changes nothing. -/
theorem ownZonc_nil (s : State) : ownZonc [] s = s.accept s.zoncFields := by
  have absent : ∀ {α : Type} (i : Nat) (read : Text → Option α), optField [] i read = .absent :=
    fun i read => optField_absent read (Or.inr (by simp))
  unfold ownZonc
  rw [absent, absent, absent, if_neg (by simp [noneBeyond, Opt.fine]), if_neg (by simp [Opt.or])]
  rfl

/-- Settles O19: the fields read back as the day, the time of day, the offsets and the zone state that they spell, and the owner's checks then select the clause. -/
theorem settAndZoncSetTimeAndZone : Obligations.SettAndZoncSetTimeAndZone := by
  refine ⟨fun s d h m sec hf hd hh hm hs => ?_, fun s a b z hf ha hb => ⟨?_, fun hr => ?_, ?_⟩⟩
  · obtain ⟨hstate, htarget⟩ := execSett_cases hf hd hh hm hs
    refine ⟨hstate, fun ht => ⟨fun h1 h2 h3 => (htarget ht).1 (dayInRange_iff.2 ⟨h1, h2⟩) h3, fun hn => ?_⟩⟩
    refine (htarget ht).2 (fun ⟨hr, hsec⟩ => ?_)
    have := dayInRange_iff.1 hr
    omega
  · intro a1 a2 a3 b1 b2 b3
    have own := ownZonc_fine (s := s.hunting) (z := z) ((readOffset_signed ha).trans (if_pos ⟨a1, a2, a3⟩))
      ((readOffset_signed hb).trans (if_pos ⟨b1, b2, b3⟩))
    rw [execZonc_free _ hf, own]
    refine ⟨fun hz => ?_, fun hne hk => ?_⟩
    · rw [if_neg]
      · rfl
      · rintro ⟨hne, hany⟩
        rcases hz with rfl | hz
        · exact hne rfl
        · obtain ⟨k, e, y, w, st, c, hk, hst⟩ := anyActiveZone_iff.1 hany
          obtain ⟨o, ho⟩ := hz k e y w st c hk
          exact hst o ho
    · rw [if_pos ⟨hne, anyActiveZone_iff.2 hk⟩]
      rfl
  · rw [execZonc_free _ hf, ownZonc_badOffset ((readOffset_signed ha).trans (if_neg (by omega)))]
    rfl
  · rw [execZonc_free _ hf, ownZonc_nil]
    rfl

end Sys2Proof.Machine
end

section
/-! Proofs: the calendar (O32): the years and months that cover a day number, and the two conversions between them. -/

namespace Sys2Proof.Machine

/-! ### Years -/

theorem yearLength_ge (y : Nat) : 365 ≤ yearLength y := by
  unfold yearLength
  split <;> omega

/-- R23: the length of the year that begins k years after 2000. -/
theorem yearLength_since_2000 (k : Nat) :
    yearLength (2000 + k) = if k % 4 = 0 ∧ (k % 100 ≠ 0 ∨ k % 400 = 0) then 366 else 365 := by
  have leap : isLeapYear (2000 + k) = true ↔ k % 4 = 0 ∧ (k % 100 ≠ 0 ∨ k % 400 = 0) := by
    simp only [isLeapYear, Bool.or_eq_true, Bool.and_eq_true, beq_iff_eq, bne_iff_ne]
    omega
  simp only [yearLength, leap]

/-- R23, R24: the days of the first k years: 365 each, and one for each leap year begun. -/
theorem daysBeforeYear_eq (k : Nat) :
    daysBeforeYear k + (k + 99) / 100 = 365 * k + (k + 3) / 4 + (k + 399) / 400 := by
  induction k with
  | zero => rfl
  | succ k ih =>
    rw [daysBeforeYear, yearLength_since_2000]
    split <;> omega

theorem daysBeforeYear_mono {j k : Nat} (h : j ≤ k) : daysBeforeYear j ≤ daysBeforeYear k := by
  induction h with
  | refl => exact Nat.le_refl _
  | step _ ih => exact Nat.le_trans ih (Nat.le_add_right _ _)

theorem le_daysBeforeYear (k : Nat) : 365 * k ≤ daysBeforeYear k := by
  induction k with
  | zero => exact Nat.zero_le _
  | succ k ih =>
    have := yearLength_ge (2000 + k)
    rw [daysBeforeYear]
    omega

/-- R23: taking years off day r of the year k years on, counted from the start of year j, ends at that year and day. -/
theorem splitYears_eq (fuel j k r n : Nat) (hk : k < fuel) (hr : r < yearLength (2000 + (j + k)))
    (hn : daysBeforeYear j + n = daysBeforeYear (j + k) + r) :
    splitYears fuel (2000 + j) n = (2000 + (j + k), r) := by
  induction fuel generalizing j k n with
  | zero => omega
  | succ fuel ih =>
    unfold splitYears
    cases k with
    | zero =>
      obtain rfl : n = r := by simpa using hn
      exact if_pos hr
    | succ k =>
      have step : daysBeforeYear (j + 1) = daysBeforeYear j + yearLength (2000 + j) := rfl
      have mono : daysBeforeYear (j + 1) ≤ daysBeforeYear (j + (k + 1)) := daysBeforeYear_mono (by omega)
      have swap : j + 1 + k = j + (k + 1) := by omega
      rw [if_neg (by omega), ← swap]
      exact ih (j + 1) k (n - yearLength (2000 + j)) (by omega) (by rw [swap]; exact hr) (by rw [swap]; omega)

/-- R23: every day number lies in one year. -/
theorem exists_year (n : Nat) : ∃ k r, r < yearLength (2000 + k) ∧ n = daysBeforeYear k + r := by
  induction n with
  | zero => exact ⟨0, 0, by decide, rfl⟩
  | succ n ih =>
    obtain ⟨k, r, hr, hn⟩ := ih
    by_cases hlast : r + 1 < yearLength (2000 + k)
    · exact ⟨k, r + 1, hlast, by omega⟩
    · have next_pos := yearLength_ge (2000 + (k + 1))
      exact ⟨k + 1, 0, by omega, by rw [daysBeforeYear]; omega⟩

/-! ### Months -/

/-- R23, R24: a month's days lead to the next month's start. -/
theorem daysBeforeMonth_succ (y : Nat) {m : Nat} (h1 : 1 ≤ m) (h2 : m ≤ 11) :
    daysBeforeMonth y (m + 1) = daysBeforeMonth y m + monthLength y m := by
  have cases : m = 1 ∨ m = 2 ∨ m = 3 ∨ m = 4 ∨ m = 5 ∨ m = 6 ∨ m = 7 ∨ m = 8 ∨ m = 9 ∨ m = 10 ∨ m = 11 := by omega
  rcases cases with rfl | rfl | rfl | rfl | rfl | rfl | rfl | rfl | rfl | rfl | rfl <;>
    cases hl : isLeapYear y <;> simp [daysBeforeMonth, monthStart, monthLength, hl]

/-- R23, R24: the twelfth month's days end the year. -/
theorem daysBeforeMonth_twelve (y : Nat) : daysBeforeMonth y 12 + monthLength y 12 = yearLength y := by
  cases hl : isLeapYear y <;> simp [daysBeforeMonth, monthStart, monthLength, yearLength, hl]

theorem monthLength_pos (y m : Nat) : 0 < monthLength y m := by
  unfold monthLength
  split
  · split <;> omega
  · split <;> omega

theorem daysBeforeMonth_one (y : Nat) : daysBeforeMonth y 1 = 0 := by simp [daysBeforeMonth, monthStart]

theorem daysBeforeMonth_mono (y : Nat) {j k : Nat} (h1 : 1 ≤ j) (h : j ≤ k) (h2 : k ≤ 12) :
    daysBeforeMonth y j ≤ daysBeforeMonth y k := by
  induction h with
  | refl => exact Nat.le_refl _
  | @step k hjk ih =>
    rw [Nat.succ_eq_add_one, daysBeforeMonth_succ y (Nat.le_trans h1 hjk) (by omega)]
    exact Nat.le_trans (ih (by omega)) (Nat.le_add_right _ _)

/-- R23, R24: no month passes the end of its year. -/
theorem monthEnd_le (y : Nat) {m : Nat} (h1 : 1 ≤ m) (h2 : m ≤ 12) :
    daysBeforeMonth y m + monthLength y m ≤ yearLength y := by
  rcases Nat.lt_or_ge m 12 with h | h
  · rw [← daysBeforeMonth_succ y h1 (by omega), ← daysBeforeMonth_twelve y]
    exact Nat.le_trans (daysBeforeMonth_mono y (by omega) h (Nat.le_refl _)) (Nat.le_add_right _ _)
  · obtain rfl : m = 12 := by omega
    exact Nat.le_of_eq (daysBeforeMonth_twelve y)

/-- R23: taking months off day d of the month k months on, counted from the start of month m, ends at that month and day. -/
theorem splitMonths_eq (y fuel m k d n : Nat) (hk : k ≤ fuel) (h1 : 1 ≤ m) (h2 : m + k ≤ 12)
    (hd : d < monthLength y (m + k)) (hn : daysBeforeMonth y m + n = daysBeforeMonth y (m + k) + d) :
    splitMonths y fuel m n = (m + k, d) := by
  induction fuel generalizing m k n with
  | zero =>
    obtain rfl : k = 0 := by omega
    obtain rfl : n = d := by simpa using hn
    rfl
  | succ fuel ih =>
    unfold splitMonths
    cases k with
    | zero =>
      obtain rfl : n = d := by simpa using hn
      exact if_pos hd
    | succ k =>
      have step := daysBeforeMonth_succ y h1 (m := m) (by omega)
      have mono := daysBeforeMonth_mono y (j := m + 1) (k := m + (k + 1)) (by omega) (by omega) h2
      have swap : m + 1 + k = m + (k + 1) := by omega
      rw [if_neg (by omega), ← swap]
      exact ih (m + 1) k (n - monthLength y m) (by omega) (by omega) (by omega) (by rw [swap]; exact hd)
        (by rw [swap]; omega)

/-- R23: every day of a year lies in one month. -/
theorem exists_month (y : Nat) {r : Nat} (h : r < yearLength y) :
    ∃ m d, 1 ≤ m ∧ m ≤ 12 ∧ d < monthLength y m ∧ r = daysBeforeMonth y m + d := by
  induction r with
  | zero => exact ⟨1, 0, by omega, by omega, monthLength_pos y 1, by rw [daysBeforeMonth_one]⟩
  | succ r ih =>
    obtain ⟨m, d, h1, h2, hd, hr⟩ := ih (by omega)
    by_cases hlast : d + 1 < monthLength y m
    · exact ⟨m, d + 1, h1, h2, hlast, by omega⟩
    · rcases Nat.lt_or_ge m 12 with hm | hm
      · exact ⟨m + 1, 0, by omega, by omega, monthLength_pos y (m + 1), by
          rw [daysBeforeMonth_succ y h1 (by omega)]; omega⟩
      · obtain rfl : m = 12 := by omega
        have := daysBeforeMonth_twelve y
        omega

/-! ### Dates -/

/-- R23: the date of day d + 1 of month m of the year k years after 2000. -/
theorem dateOfDay_eq {k m d : Nat} (h1 : 1 ≤ m) (h2 : m ≤ 12) (hd : d < monthLength (2000 + k) m) :
    dateOfDay (daysBeforeYear k + (daysBeforeMonth (2000 + k) m + d)) = { year := 2000 + k, month := m, day := d + 1 } := by
  have hr : daysBeforeMonth (2000 + k) m + d < yearLength (2000 + k) :=
    Nat.lt_of_lt_of_le (by omega) (monthEnd_le (2000 + k) h1 h2)
  have hk : k < (daysBeforeYear k + (daysBeforeMonth (2000 + k) m + d)) / 365 + 1 := by
    have := le_daysBeforeYear k
    omega
  generalize hn : daysBeforeYear k + (daysBeforeMonth (2000 + k) m + d) = n at hk
  have years : splitYears (n / 365 + 1) 2000 n = (2000 + k, daysBeforeMonth (2000 + k) m + d) := by
    have first : daysBeforeYear 0 = 0 := rfl
    have := splitYears_eq (n / 365 + 1) 0 k (daysBeforeMonth (2000 + k) m + d) n hk (by rwa [Nat.zero_add])
      (by rw [Nat.zero_add]; omega)
    rwa [Nat.zero_add] at this
  have months : splitMonths (2000 + k) 11 1 (daysBeforeMonth (2000 + k) m + d) = (m, d) := by
    have := splitMonths_eq (2000 + k) 11 1 (m - 1) d (daysBeforeMonth (2000 + k) m + d) (by omega) (by omega) (by omega)
      (by rwa [Nat.add_sub_cancel' h1]) (by rw [daysBeforeMonth_one, Nat.add_sub_cancel' h1, Nat.zero_add])
    rwa [Nat.add_sub_cancel' h1] at this
  simp only [dateOfDay, years, months]

/-- R23, R24: the last day of the span. -/
theorem daysBeforeYear_span : daysBeforeYear 200 = 73049 := by
  have := daysBeforeYear_eq 200
  omega

/-- Settles O32: a day number lies in exactly one month of one year, which both conversions name. -/
theorem calendarConversionsAgree : Obligations.CalendarConversionsAgree := by
  refine ⟨fun n hn => ?_, fun d hd => ?_⟩
  · obtain ⟨k, r, hr, rfl⟩ := exists_year n
    obtain ⟨m, d, h1, h2, hd, rfl⟩ := exists_month (2000 + k) hr
    have hk : k < 200 := by
      refine Nat.lt_of_not_le (fun hge => ?_)
      have := daysBeforeYear_mono hge
      rw [daysBeforeYear_span] at this
      omega
    rw [dateOfDay_eq h1 h2 hd]
    refine ⟨Date.valid_iff.2 ⟨by simp, by simp only; omega, h1, h2, by simp, hd⟩, ?_⟩
    simp only [dayOfDate, Nat.add_sub_cancel_left, Nat.add_sub_cancel]
    omega
  · obtain ⟨y, m, d⟩ := d
    obtain ⟨hy1, hy2, hm1, hm2, hd1, hd2⟩ := Date.valid_iff.1 hd
    simp only at hy1 hy2 hm1 hm2 hd1 hd2
    obtain ⟨k, rfl⟩ := Nat.exists_eq_add_of_le hy1
    obtain ⟨e, rfl⟩ := Nat.exists_eq_add_of_le' hd1
    have day : dayOfDate { year := 2000 + k, month := m, day := e + 1 } =
        daysBeforeYear k + (daysBeforeMonth (2000 + k) m + e) := by
      simp only [dayOfDate, Nat.add_sub_cancel_left, Nat.add_sub_cancel]
      omega
    have month_end := monthEnd_le (2000 + k) hm1 hm2
    have year_end : daysBeforeYear k + yearLength (2000 + k) ≤ daysBeforeYear 200 :=
      daysBeforeYear_mono (j := k + 1) (by omega)
    rw [daysBeforeYear_span] at year_end
    rw [day]
    exact ⟨dateOfDay_eq hm1 hm2 (by omega), by omega⟩

end Sys2Proof.Machine
end

section
/-! Proofs: a local epoch seen whole: folds of reactions, which kinds of notice each reaction can post, what each leaves alone, and the epoch as its time step followed by its reactions. -/

namespace Sys2Proof.Machine

/-! ### Folds -/

/-- What one element of a fold brings about, when what it needs is kept before it and what it brings is kept after it, holds after the fold. -/
theorem foldl_reaches {α β : Type} {f : β → α → β} {xs : List α} {x : α} (P Q : β → Prop) (hx : x ∈ xs)
    (before : ∀ b a, a ∈ xs → P b → P (f b a)) (reach : ∀ b, P b → Q (f b x))
    (after : ∀ b a, a ∈ xs → Q b → Q (f b a)) {b : β} (h : P b) : Q (xs.foldl f b) := by
  obtain ⟨as, bs, rfl⟩ := List.append_of_mem hx
  rw [List.foldl_append, List.foldl_cons]
  refine List.foldlRecOn bs f (reach _ ?_) (fun b hb a ha => after b a (by simp [ha]) hb)
  exact List.foldlRecOn as f h (fun b hb a ha => before b a (by simp [ha]) hb)

/-! ### Which notices an operation can post -/

/-- R181: of the notices, t differs from s in entries of these kinds alone. -/
def State.postsOnly (t s : State) (ks : List NoticeKind) : Prop :=
  t.notices.mask = s.notices.mask ∧
    ∀ x : Notice, x.data.kind ∉ ks → (x ∈ t.notices.entries ↔ x ∈ s.notices.entries)

theorem State.postsOnly_of_eq {s t : State} {ks : List NoticeKind} (h : t.notices = s.notices) : t.postsOnly s ks := by
  simp [State.postsOnly, h]

theorem State.postsOnly.trans {s t u : State} {ks : List NoticeKind} (h : t.postsOnly s ks) (h' : u.postsOnly t ks) :
    u.postsOnly s ks :=
  ⟨h'.1.trans h.1, fun x hx => (h'.2 x hx).trans (h.2 x hx)⟩

theorem State.postsOnly.mono {s t : State} {ks ks' : List NoticeKind} (h : t.postsOnly s ks) (hk : ks ⊆ ks') :
    t.postsOnly s ks' :=
  ⟨h.1, fun x hx => h.2 x (fun hm => hx (hk hm))⟩

/-- R181: an entry of another kind is listed after a post exactly where it was before. -/
theorem NoticeList.mem_post_of_ne {l : NoticeList} {d : NoticeData} {label : Option Label} {x : Notice}
    (h : x.data.kind ≠ d.kind) : x ∈ (l.post d label).entries ↔ x ∈ l.entries := by
  refine ⟨fun hx => ?_, fun hx => NoticeList.post_keeps label hx h⟩
  unfold NoticeList.post at hx
  split at hx
  · exact hx
  · split at hx
    · obtain ⟨e, he, rfl⟩ := List.mem_map.1 hx
      split at h
      · exact absurd rfl h
      · rename_i hne
        rwa [if_neg hne]
    · rcases List.mem_append.1 hx with hx | hx
      · exact hx
      · obtain rfl := List.mem_singleton.1 hx
        exact absurd rfl h

/-- A post of one of these kinds, after what leaves the notices. -/
theorem State.postsOnly_post {s t : State} {ks : List NoticeKind} (h : t.notices = s.notices) {d : NoticeData}
    (hd : d.kind ∈ ks) (l : Option Label) : (t.post d l).postsOnly s ks :=
  (State.postsOnly_of_eq h).trans ⟨by simp, fun x hx => NoticeList.mem_post_of_ne (fun he => hx (he ▸ hd))⟩

theorem State.postsOnly_ite {s t u : State} {ks : List NoticeKind} {p : Prop} [Decidable p] (ht : t.postsOnly s ks)
    (hu : u.postsOnly s ks) : (if p then t else u).postsOnly s ks := by
  split <;> assumption

/-- A listed notice of another kind stays listed. -/
theorem State.postsOnly.lists {s t : State} {ks : List NoticeKind} (h : t.postsOnly s ks) {d : NoticeData}
    {l : Option Label} (hd : d.kind ∉ ks) (hs : s.lists d l) : t.lists d l := by
  obtain ⟨e, he, rfl, rfl⟩ := hs
  exact ⟨e, (h.2 e hd).2 he, rfl, rfl⟩

/-- R181: a post of a kind that is not masked is listed. -/
theorem State.lists_post {s : State} {d : NoticeData} (l : Option Label) (h : d.kind ∉ s.notices.mask) :
    (s.post d l).lists d l :=
  NoticeList.post_lists l h

/-- What every step of a fold posts only, the fold posts only. -/
theorem State.postsOnly_foldl {α : Type} {f : State → α → State} {ks : List NoticeKind} {xs : List α}
    (h : ∀ s a, a ∈ xs → (f s a).postsOnly s ks) (s : State) : (xs.foldl f s).postsOnly s ks :=
  List.foldlRecOn xs f (motive := fun t => t.postsOnly s ks) (State.postsOnly_of_eq rfl)
    (fun t ht a ha => ht.trans (h t a ha))

section Kinds

variable (s : State)

/-- R83: a change of discipline state. -/
theorem State.setDisc_postsOnly (d : Discipline) (k : DiscCause) (l : Option Label) :
    (s.setDisc d k l).postsOnly s [.discState] :=
  State.postsOnly_post rfl (by simp [NoticeData.kind]) l

/-- R68: the discipline controller's reaction to a selection. -/
theorem State.takeSelection_postsOnly (p n : Option RefNo) (l : Option Label) :
    (s.takeSelection p n l).postsOnly s [.discState] := by
  have posted := fun d k => s.setDisc_postsOnly d k l
  have kept : ∀ d, ({ s with disc := d } : State).postsOnly s [.discState] := fun d => State.postsOnly_of_eq rfl
  unfold State.takeSelection
  split
  · exact posted _ _
  · exact kept _
  · exact posted _ _
  · exact kept _
  · exact posted _ _
  · exact kept _
  · exact kept _
  · exact kept _

/-- R61, R62: an evaluation of the selector. -/
theorem State.evaluate_postsOnly (k : SelCause) (l : Option Label) :
    (s.evaluate k l).postsOnly s [.select, .discState] := by
  unfold State.evaluate
  dsimp only
  split
  · exact State.postsOnly_of_eq rfl
  · refine State.postsOnly.trans (State.postsOnly_post rfl ?_ l)
      ((State.takeSelection_postsOnly _ _ _ _).mono ?_)
    · simp [NoticeData.kind]
    · simp

/-- R57: a change of reference state. -/
theorem State.changeRef_postsOnly (r : RefNo) (p : RefState) (x : Reference) (k : RefCause) (l : Option Label) :
    (s.changeRef r p x k l).postsOnly s [.refState, .select, .discState] := by
  refine State.postsOnly.trans (State.postsOnly_post (t := s.setRef r x) rfl ?_ l)
    ((State.evaluate_postsOnly _ _ _).mono ?_)
  · simp [NoticeData.kind]
  · simp

/-- R50: a review. -/
theorem State.review_postsOnly (r : RefNo) (st : Bool) (w : Nat) (a : Int) (l : Option Label) :
    (s.review r st w a l).postsOnly s [.refState, .select, .discState] := by
  unfold State.review
  dsimp only
  split
  · exact State.postsOnly_of_eq rfl
  · split
    · exact State.postsOnly_of_eq rfl
    · split
      · exact State.postsOnly_of_eq rfl
      · split
        · exact State.postsOnly_of_eq rfl
        · exact s.changeRef_postsOnly _ _ _ _ _

/-- R110: a slot's move. -/
theorem State.moveSlot_postsOnly (k : SlotNo) (st : SlotState) (l : Option Label) :
    (s.moveSlot k st l).postsOnly s [.slotState] := by
  unfold State.moveSlot
  split
  · exact State.postsOnly_of_eq rfl
  · dsimp only
    split
    · exact State.postsOnly_post rfl (by simp [NoticeData.kind]) l
    · exact State.postsOnly_post rfl (by simp [NoticeData.kind]) l
    · exact State.postsOnly_of_eq rfl

theorem State.uncarry_notices (k : SlotNo) : (s.uncarry k).notices = s.notices := by simp

theorem State.slotAtComposition_postsOnly (k d : Nat) (l : Option Label) (n : SlotNo) :
    (State.slotAtComposition k d l s n).postsOnly s [.slotState] := by
  unfold State.slotAtComposition
  split
  · exact State.postsOnly_of_eq rfl
  · exact (s.moveSlot_postsOnly _ _ _).trans (State.postsOnly_of_eq (State.uncarry_notices _ _))
  · exact s.moveSlot_postsOnly _ _ _

theorem State.slotAtBoundary_postsOnly (m : Nat) (l : Option Label) (n : SlotNo) :
    (State.slotAtBoundary m l s n).postsOnly s [.slotState] := by
  have kept : s.postsOnly s [.slotState] := State.postsOnly_of_eq rfl
  have zoned : ∀ z st, ((s.setZone z).moveSlot n st l).postsOnly s [.slotState] := fun z st =>
    (State.postsOnly_of_eq rfl : (s.setZone z).postsOnly s _).trans (State.moveSlot_postsOnly _ _ _ _)
  unfold State.slotAtBoundary
  split
  · exact kept
  · split
    · exact kept
    · exact State.postsOnly_ite (zoned _ _) kept
    · exact State.postsOnly_ite (s.moveSlot_postsOnly _ _ _) kept
    · exact State.postsOnly_ite (s.moveSlot_postsOnly _ _ _) kept
    · exact State.postsOnly_ite (s.moveSlot_postsOnly _ _ _) kept
    · exact kept

/-- R102, R103: the table at an epoch. -/
theorem State.tableEpoch_postsOnly (l : Option Label) : (s.tableEpoch l).postsOnly s [.slotState] := by
  unfold State.tableEpoch
  split
  · split
    · exact (State.postsOnly_of_eq rfl : s.countFree.postsOnly s _).trans
        (State.postsOnly_foldl (fun t k _ => t.slotAtBoundary_postsOnly _ _ k) _)
    · exact State.postsOnly_of_eq rfl
  · exact State.postsOnly_of_eq rfl

/-- R97: the table at a composition. -/
theorem State.tableAtComposition_postsOnly (k d : Nat) (l : Option Label) :
    (s.tableAtComposition k d l).postsOnly s [.slotState] :=
  ((State.postsOnly_of_eq rfl : s.countFree.postsOnly s _).trans
    (State.postsOnly_foldl (fun t n _ => t.slotAtComposition_postsOnly k d l n) _)).trans (State.postsOnly_of_eq rfl)

/-- R123: a record placed in NEXT. -/
theorem State.place_postsOnly (r : Record) : (s.place r).postsOnly s [.recordDiscard] := by
  unfold State.place
  split
  · exact State.postsOnly_of_eq rfl
  · exact State.postsOnly_post rfl (by simp [NoticeData.kind]) _

/-- R112: the composer at an epoch. -/
theorem State.composition_postsOnly (l : Option Label) :
    (s.composition l).postsOnly s [.slotState, .recordDiscard] := by
  unfold State.composition
  split
  · split
    · exact ((s.tableAtComposition_postsOnly _ _ _).mono (by simp)).trans
        ((State.place_postsOnly _ _).mono (by simp))
    · exact State.postsOnly_of_eq rfl
  · exact State.postsOnly_of_eq rfl

/-- R138: a change of keying mode. -/
theorem State.setMode_postsOnly (m : KeyMode) (k : KeyCause) (l : Option Label) :
    (s.setMode m k l).postsOnly s [.keyMode] := by
  unfold State.setMode
  split
  · exact State.postsOnly_of_eq rfl
  · exact State.postsOnly_post rfl (by simp [NoticeData.kind]) _

/-- R131: the taking of the record. -/
theorem State.takeRecord_postsOnly (m : Nat) (l : Option Label) : (s.takeRecord m l).postsOnly s [.recordDiscard] := by
  unfold State.takeRecord
  dsimp only
  split
  · exact State.postsOnly_of_eq rfl
  · split
    · exact State.postsOnly_of_eq rfl
    · exact State.postsOnly_post rfl (by simp [NoticeData.kind]) _

/-- R133: the test of AIR. -/
theorem State.testAir_postsOnly (m : Nat) (l : Option Label) :
    (s.testAir m l).postsOnly s [.recordDiscard, .keyMode] := by
  unfold State.testAir
  split
  · exact State.postsOnly_of_eq rfl
  · split
    · exact State.postsOnly_of_eq rfl
    · rename_i r _ _ t _
      have discarded : ((s.setAir none).post (.recordDiscard (.stale t) r.keyed m r.stale) l).postsOnly s
          [.recordDiscard, .keyMode] := State.postsOnly_post rfl (by simp [NoticeData.kind]) _
      exact State.postsOnly_ite (discarded.trans ((State.setMode_postsOnly _ _ _ _).mono (by simp))) discarded

theorem State.testMode_postsOnly (l : Option Label) : (s.testMode l).postsOnly s [.keyMode] := by
  unfold State.testMode
  split
  · exact s.setMode_postsOnly _ _ _
  · exact State.postsOnly_of_eq rfl

/-- R131 to R139: the keyer at an epoch. -/
theorem State.keyerEpoch_postsOnly (c : EpochCtx) : (s.keyerEpoch c).postsOnly s [.recordDiscard, .keyMode] := by
  have boundary : ∀ m, (s.keyerBoundary m c.label).postsOnly s [.recordDiscard, .keyMode] := fun m =>
    (((s.takeRecord_postsOnly m c.label).mono (by simp)).trans (State.postsOnly_of_eq (by simp))).trans
      ((State.setMode_postsOnly _ _ _ _).mono (by simp))
  have other : (s.keyerOther c).postsOnly s [.recordDiscard, .keyMode] := by
    unfold State.keyerOther
    split
    · refine State.postsOnly.trans ?_ ((State.testMode_postsOnly _ _).mono (by simp))
      split
      · exact s.testAir_postsOnly _ _
      · exact State.postsOnly_of_eq rfl
    · exact (s.testMode_postsOnly _).mono (by simp)
  unfold State.keyerEpoch
  refine State.postsOnly.trans ?_ (State.postsOnly_of_eq (State.makeSchedule_notices _ _))
  split
  · split
    · exact boundary _
    · exact other
  · exact other

/-- R163 to R166: the changeover block at a boundary. -/
theorem State.changeoverBoundary_postsOnly (v : Option Verdict) (l : Option Label) :
    (s.changeoverBoundary v l).postsOnly s [.changeover] := by
  have decided : (s.decideChangeover l).postsOnly s [.changeover] := by
    unfold State.decideChangeover
    split
    · exact State.postsOnly_of_eq rfl
    · split <;> exact State.postsOnly_post rfl (by simp [NoticeData.kind]) _
  have ruled : ∀ (t : State) (v : Verdict), (t.automaticRule v l).postsOnly t [.changeover] := by
    intro t v
    unfold State.automaticRule
    split
    · dsimp only
      split <;> exact State.postsOnly_post rfl (by simp [NoticeData.kind]) _
    · exact State.postsOnly_of_eq rfl
  unfold State.changeoverBoundary
  dsimp only
  split
  · exact decided.trans (State.postsOnly_of_eq rfl)
  · exact (decided.trans (ruled _ _)).trans (State.postsOnly_of_eq rfl)

/-- R157, R159, R162: the monitor's judgement. -/
theorem State.judge_postsOnly (l : Option Label) : (s.judge l).postsOnly s [.monVerdict, .changeover] := by
  have reported : ∀ (t : State) (r : MonRecord), (t.postVerdict r l).postsOnly t [.monVerdict, .changeover] := by
    intro t r
    unfold State.postVerdict
    split
    · exact State.postsOnly_post rfl (by simp [NoticeData.kind]) _
    · exact State.postsOnly_of_eq rfl
  unfold State.judge
  split
  · exact (s.changeoverBoundary_postsOnly _ _).mono (by simp)
  · refine State.postsOnly.trans ?_ ((State.changeoverBoundary_postsOnly _ _ _).mono (by simp))
    exact State.postsOnly.trans (State.postsOnly_of_eq rfl) (reported _ _)

/-- R155 to R166: the monitor at an epoch. -/
theorem State.monitorEpoch_postsOnly (c : EpochCtx) : (s.monitorEpoch c).postsOnly s [.monVerdict, .changeover] := by
  have closed : (if c.loaded || c.rangeEnd then (s.closeSecond c).abandon else s.closeSecond c).postsOnly s
      [.monVerdict, .changeover] := by
    split <;> exact State.postsOnly_of_eq rfl
  unfold State.monitorEpoch
  dsimp only
  split
  · exact closed
  · split
    · exact (closed.trans (State.judge_postsOnly _ _)).trans (State.postsOnly_of_eq rfl)
    · exact closed

/-- R78, R79: the holdover timers. -/
theorem State.holdoverTick_postsOnly (e : Bool) (l : Option Label) :
    (s.holdoverTick e l).postsOnly s [.holdoverLimit, .discState] := by
  have h1 : ∀ t : State, (t.checkH1 l).postsOnly t [.holdoverLimit, .discState] := by
    intro t
    unfold State.checkH1
    split
    · exact State.postsOnly_post rfl (by simp [NoticeData.kind]) _
    · exact State.postsOnly_of_eq rfl
  have h2 : ∀ t : State, (t.checkH2 l).postsOnly t [.holdoverLimit, .discState] := by
    intro t
    unfold State.checkH2
    split
    · exact ((t.setDisc_postsOnly _ _ _).mono (by simp)).trans (State.postsOnly_post rfl (by simp [NoticeData.kind]) _)
    · exact State.postsOnly_of_eq rfl
  unfold State.holdoverTick
  dsimp only
  split
  · generalize hu : ({ s with disc := { s.disc with elapsed := s.disc.elapsed + 1 } } : State) = u
    have raised : u.postsOnly s [.holdoverLimit, .discState] := State.postsOnly_of_eq (by rw [← hu])
    exact raised.trans ((h1 u).trans (h2 _))
  · exact State.postsOnly_of_eq rfl

/-- R81: the discipline controller at the range end. -/
theorem State.rangeEndFree_postsOnly (l : Option Label) : (s.rangeEndFree l).postsOnly s [.discState] := by
  unfold State.rangeEndFree
  dsimp only
  split
  · exact State.postsOnly_of_eq rfl
  · exact s.setDisc_postsOnly _ _ _

end Kinds

/-- R181: the kinds of notice that a reaction to an epoch can post. -/
def Reaction.kinds : Reaction → List NoticeKind
  | .settings => []
  | .maintenance => []
  | .keyer => [.recordDiscard, .keyMode]
  | .monitor => [.monVerdict, .changeover]
  | .holdover => [.holdoverLimit, .discState]
  | .review _ => [.refState, .select, .discState]
  | .composition => [.slotState, .recordDiscard]
  | .table => [.slotState]
  | .rangeEnd => [.discState]

/-- A reaction to an epoch posts no other kind. -/
theorem State.react_postsOnly (c : EpochCtx) (s : State) (x : Reaction) : (s.react c x).postsOnly s x.kinds := by
  cases x with
  | settings => exact State.postsOnly_of_eq (by simp [State.react])
  | maintenance => exact State.postsOnly_of_eq (by simp [State.react])
  | keyer => exact s.keyerEpoch_postsOnly c
  | monitor => exact s.monitorEpoch_postsOnly c
  | holdover => exact s.holdoverTick_postsOnly _ _
  | review r => exact s.review_postsOnly r _ _ _ _
  | composition => exact s.composition_postsOnly _
  | table => exact s.tableEpoch_postsOnly _
  | rangeEnd =>
    simp only [State.react]
    split
    · exact s.rangeEndFree_postsOnly _
    · exact State.postsOnly_of_eq rfl

/-- No reaction to an epoch posts TIME_LOADED or TIME_END. -/
theorem Reaction.kinds_subset (x : Reaction) :
    x.kinds ⊆ [.refState, .select, .discState, .holdoverLimit, .slotState, .recordDiscard, .keyMode, .monVerdict,
      .changeover] := by
  cases x <;> simp [Reaction.kinds]

/-- So the reactions to an epoch, in any order, leave the entries of these two kinds as they are. -/
theorem State.reactions_postsOnly (c : EpochCtx) (order : List Reaction) (s : State) :
    (order.foldl (State.react c) s).postsOnly s
      [.refState, .select, .discState, .holdoverLimit, .slotState, .recordDiscard, .keyMode, .monVerdict, .changeover] :=
  State.postsOnly_foldl (fun t x _ => (t.react_postsOnly c x).mono x.kinds_subset) s

end Sys2Proof.Machine
end

section
/-! Proofs: the local epoch as its time step followed by its reactions, and what each reaction leaves alone. -/

namespace Sys2Proof.Machine

/-! ### The epoch in two parts -/

/-- R64: what the time scale meets at the next epoch: the second has run to its end, two free numbers are read and a nominal second begins. -/
def State.atEpoch (s : State) : State := s.toEpoch.countFree.countFree.beginSecond

/-- What the next epoch hands to the blocks. -/
def State.nextCtx (s : State) : EpochCtx := s.toEpoch.countFree.countFree.epochCtx s.atEpoch.timeStep

/-- The order of the reactions of the next epoch. -/
def State.nextOrder (s : State) : List Reaction := reactionOrder s.toEpoch.freeNow s.toEpoch.countFree.freeNow

/-- R64: the next epoch is the time step and then the reactions of the blocks. -/
theorem State.nextEpoch_eq {s : State} (h : s.resetHeld = false) :
    s.nextEpoch = s.nextOrder.foldl (State.react s.nextCtx) s.atEpoch.timeStep.state :=
  if_neg (by simp [h])

section Frame

variable (s : State)

/-- What the way to the epoch leaves alone; of the discipline controller only the marks of the ended second go. -/
@[simp] theorem State.atEpoch_frame :
    s.atEpoch.time = s.time ∧ s.atEpoch.refs = s.refs ∧ s.atEpoch.selector = s.selector ∧ s.atEpoch.slots = s.slots ∧
      s.atEpoch.nextRecord = s.nextRecord ∧ s.atEpoch.chains = s.chains ∧ s.atEpoch.port = s.port ∧
      s.atEpoch.notices = s.notices ∧ s.atEpoch.counter = { phase := 0, length := nominalSecond } := by
  simp [State.atEpoch, State.toEpoch]

theorem State.atEpoch_disc :
    s.atEpoch.disc =
      { s.disc with
        entrySecond := false, stepped := false,
        lastApplied := some ((s.toEpoch.counter.length : Int) - nominalSecond) } := by
  simp [State.atEpoch, State.toEpoch]

/-- R144, R154: the shaper's points on the way touch neither the monitor's observation nor its record. -/
theorem State.segmentPoint_monitor :
    s.segmentPoint.monitor.observation = s.monitor.observation ∧ s.segmentPoint.monitor.record = s.monitor.record := by
  have fall : ∀ t : State, t.monitorFall.monitor.observation = t.monitor.observation ∧
      t.monitorFall.monitor.record = t.monitor.record := by
    intro t
    unfold State.monitorFall
    split <;> exact ⟨rfl, rfl⟩
  have keep : ∀ (m : Monitor) (i : Interval), (m.keep i).observation = m.observation ∧ (m.keep i).record = m.record := by
    intro m i
    unfold Monitor.keep
    split <;> exact ⟨rfl, rfl⟩
  have rise : ∀ t : State, t.monitorRise.monitor.observation = t.monitor.observation ∧
      t.monitorRise.monitor.record = t.monitor.record := by
    intro t
    unfold State.monitorRise
    split
    · exact ⟨rfl, rfl⟩
    · dsimp only
      split
      · exact keep _ _
      · exact ⟨rfl, rfl⟩
  have transition : ∀ (t : State) (b : Bool), (t.loopTransition b).monitor.observation = t.monitor.observation ∧
      (t.loopTransition b).monitor.record = t.monitor.record := by
    intro t b
    unfold State.loopTransition
    split
    · exact ⟨rfl, rfl⟩
    · split
      · exact ⟨rfl, rfl⟩
      · split
        · exact fall t
        · exact rise t
  unfold State.segmentPoint
  split
  · exact ⟨rfl, rfl⟩
  · exact transition _ _

theorem State.atEpoch_monitor_record : s.atEpoch.monitor.record = s.monitor.record := by
  have pass : ∀ (t fuel : Nat) (u : State), (State.passSegments t fuel u).monitor.record = u.monitor.record := by
    intro t fuel
    induction fuel with
    | zero => exact fun u => rfl
    | succ fuel ih =>
      intro u
      unfold State.passSegments
      split
      · rfl
      · split
        · exact (ih _).trans u.segmentPoint_monitor.2
        · rfl
  exact pass s.counter.length 54 s

/-- The label that an epoch delivers, and the marks of its time step, are those that the blocks are handed. -/
@[simp] theorem State.nextCtx_label : s.nextCtx.label = s.atEpoch.timeStep.state.time.label := rfl

@[simp] theorem State.nextCtx_loaded : s.nextCtx.loaded = s.atEpoch.timeStep.loaded := rfl

@[simp] theorem State.nextCtx_rangeEnd : s.nextCtx.rangeEnd = s.atEpoch.timeStep.rangeEnd := rfl

/-- R50, R78, R85: of the ended second they are handed whether it was stepped, its W and whether HOLDOVER stood in it. -/
theorem State.nextCtx_ended :
    s.nextCtx.stepped = s.disc.stepped ∧ s.nextCtx.window = s.disc.settings.w ∧
      s.nextCtx.wasHoldover = decide (s.disc.state = .holdover) := by
  simp [State.nextCtx, State.epochCtx, State.toEpoch]

/-- R64: every reaction is taken once. -/
theorem State.nextOrder_perm :
    s.nextOrder.Perm
      [.review 0, .review 1, .review 2, .composition, .table, .rangeEnd, .settings, .maintenance, .keyer, .monitor,
       .holdover] :=
  reactionOrder_perm _ _

theorem State.nextOrder_nodup : s.nextOrder.Nodup := s.nextOrder_perm.nodup_iff.2 (by decide)

theorem State.mem_nextOrder (x : Reaction) : x ∈ s.nextOrder := by
  refine s.nextOrder_perm.mem_iff.2 ?_
  cases x with
  | review r =>
    revert r
    decide
  | _ => simp

end Frame

/-! ### What each reaction leaves alone -/

section React

variable (c : EpochCtx) (s : State) {x : Reaction}

/-- Only the keyer touches the keyer. -/
theorem State.react_keyer (h : x ≠ .keyer) : (s.react c x).keyer = s.keyer := by
  cases x with
  | keyer => exact absurd rfl h
  | rangeEnd => simp only [State.react]; split <;> simp
  | _ => simp [State.react]

/-- Only the keyer and the composer touch NEXT. -/
theorem State.react_nextRecord (h : x ≠ .keyer) (h' : x ≠ .composition) : (s.react c x).nextRecord = s.nextRecord := by
  cases x with
  | keyer => exact absurd rfl h
  | composition => exact absurd rfl h'
  | rangeEnd => simp only [State.react]; split <;> simp
  | _ => simp [State.react]

/-- Only the monitor and, for what it hands over, the keyer touch the monitor. -/
theorem State.react_monitor (h : x ≠ .keyer) (h' : x ≠ .monitor) : (s.react c x).monitor = s.monitor := by
  cases x with
  | keyer => exact absurd rfl h
  | monitor => exact absurd rfl h'
  | rangeEnd => simp only [State.react]; split <;> simp
  | _ => simp [State.react]

/-- Only the composer and the table's boundary touch the slots. -/
theorem State.react_slots (h : x ≠ .composition) (h' : x ≠ .table) : (s.react c x).slots = s.slots := by
  cases x with
  | composition => exact absurd rfl h
  | table => exact absurd rfl h'
  | rangeEnd => simp only [State.react]; split <;> simp
  | _ => simp [State.react]

/-- Only the reviews touch the references and the selector. -/
theorem State.react_refs_selector (h : ∀ r, x ≠ .review r) :
    (s.react c x).refs = s.refs ∧ (s.react c x).selector = s.selector := by
  cases x with
  | review r => exact absurd rfl (h r)
  | rangeEnd => simp only [State.react]; split <;> simp
  | _ => simp [State.react]

/-- The keyer, the monitor, the composer, the table and the maintenance mode leave the discipline controller. -/
theorem State.react_disc (h : ∀ r, x ≠ .review r) (h1 : x ≠ .settings) (h2 : x ≠ .holdover) (h3 : x ≠ .rangeEnd) :
    (s.react c x).disc = s.disc := by
  cases x with
  | review r => exact absurd rfl (h r)
  | settings => exact absurd rfl h1
  | holdover => exact absurd rfl h2
  | rangeEnd => exact absurd rfl h3
  | _ => simp [State.react]

end React

/-! ### The discipline controller in FREE and ACQUIRE -/

/-- R67: the discipline controller stands in FREE or ACQUIRE. -/
def Discipline.unlocked (d : Discipline) : Prop := d.state = .free ∨ d.state = .acquire

/-- d stands in FREE or ACQUIRE, and since e no count and no mark of the timers was raised and the expired flag is as it was. -/
structure Discipline.easedFrom (d e : Discipline) : Prop where
  unlocked : d.unlocked
  expired : d.expired = e.expired
  elapsed : d.elapsed = e.elapsed ∨ d.elapsed = 0
  h1Passed : d.h1Passed = e.h1Passed ∨ d.h1Passed = false
  firstAwaited : d.firstAwaited = e.firstAwaited ∨ d.firstAwaited = false
  lockRun : d.lockRun = e.lockRun ∨ d.lockRun = 0
  excursions : d.excursions = e.excursions ∨ d.excursions = 0

theorem Discipline.unlocked.eased {d : Discipline} (h : d.unlocked) : d.easedFrom d :=
  ⟨h, rfl, Or.inl rfl, Or.inl rfl, Or.inl rfl, Or.inl rfl, Or.inl rfl⟩

/-- R68: from FREE and ACQUIRE an evaluation of the selector leads to these two states alone. -/
theorem State.evaluate_eased {s : State} (k : SelCause) (l : Option Label) (h : s.disc.unlocked) :
    (s.evaluate k l).disc.easedFrom s.disc := by
  obtain ⟨same, changed⟩ := s.evaluate_tookSelection k l
  by_cases hsel : (s.evaluate k l).selector.selected = s.selector.selected
  · rw [(same hsel).1]
    exact h.eased
  · obtain ⟨freeNone, freeSome, acquireNone, acquireSome, -⟩ := changed hsel _ _ rfl rfl
    rcases h with h | h <;> by_cases hn : (s.evaluate k l).selector.selected = none
    · rw [(freeNone h hn).1]
      constructor <;> simp [Discipline.unlocked, h]
    · rw [(freeSome h hn).1]
      constructor <;> simp [Discipline.unlocked]
    · rw [(acquireNone h hn).1]
      constructor <;> simp [Discipline.unlocked]
    · rw [(acquireSome h hn).1]
      constructor <;> simp [Discipline.unlocked, h]

/-- R50: so does a review. -/
theorem State.review_eased {s : State} (r : RefNo) (st : Bool) (w : Nat) (a : Int) (l : Option Label)
    (h : s.disc.unlocked) : (s.review r st w a l).disc.easedFrom s.disc := by
  unfold State.review
  dsimp only
  split
  · exact h.eased
  · split
    · exact h.eased
    · split
      · exact h.eased
      · split
        · exact h.eased
        · exact State.evaluate_eased (s := (s.setRef r _).post _ l) .state l h

/-- R78: outside HOLDOVER the holdover timers do nothing. -/
theorem State.holdoverTick_of_ne {s : State} (e : Bool) (l : Option Label) (h : s.disc.state ≠ .holdover) :
    s.holdoverTick e l = s :=
  if_neg (fun hh => h hh.1)

/-- R85: the settings in force change by a staged set alone. -/
theorem State.discSettingsInForce_disc (s : State) :
    s.discSettingsInForce.disc = { s.disc with settings := s.nextSettings, staged := none } := by
  unfold State.discSettingsInForce State.nextSettings
  split
  · rename_i h
    rw [h, Option.getD_none, ← h]
  · rename_i set h
    rw [h, Option.getD_some]

/-- R81: what the range end leaves of the discipline controller. -/
theorem State.rangeEndFree_disc (s : State) (l : Option Label) :
    (s.rangeEndFree l).disc =
      { s.disc with
        state := .free, lockRun := 0, excursions := 0, elapsed := 0, h1Passed := false, entrySecond := false,
        firstAwaited := false } := by
  unfold State.rangeEndFree
  dsimp only
  split <;> rfl

/-- From FREE and ACQUIRE every reaction to an epoch leads to these two states alone. -/
theorem State.react_eased (c : EpochCtx) {s : State} (x : Reaction) (h : s.disc.unlocked) :
    (s.react c x).disc.easedFrom s.disc := by
  have notHeld : s.disc.state ≠ .holdover := by rcases h with h | h <;> simp [h]
  cases x with
  | review r => exact State.review_eased r _ _ _ _ h
  | settings =>
    simp only [State.react, State.discSettingsInForce_disc]
    exact ⟨h, rfl, Or.inl rfl, Or.inl rfl, Or.inl rfl, Or.inl rfl, Or.inl rfl⟩
  | holdover =>
    simp only [State.react, State.holdoverTick_of_ne _ _ notHeld]
    exact h.eased
  | rangeEnd =>
    simp only [State.react]
    split
    · rw [State.rangeEndFree_disc]
      exact ⟨Or.inl rfl, rfl, Or.inr rfl, Or.inr rfl, Or.inr rfl, Or.inr rfl, Or.inr rfl⟩
    · exact h.eased
  | _ =>
    rw [State.react_disc] <;> simp [h.eased]

end Sys2Proof.Machine
end

section
/-! Proofs: the pending load at an epoch (O34): why it is declined, what a performed load leaves of the slots and the notices, and what the reactions behind it do to the records and the observation. -/

namespace Sys2Proof.Machine

/-! ### The reasons for declining -/

section Decline

variable {s : State} {p : PendingLoad}

/-- R34: a load from HOST in TRACK or HOLDOVER. -/
theorem State.declineReason_state (h : p.source = .host ∧ (s.disc.state = .track ∨ s.disc.state = .holdover)) :
    s.declineReason p = some .state :=
  if_pos h

theorem State.declineReason_range (h : ¬(p.source = .host ∧ (s.disc.state = .track ∨ s.disc.state = .holdover)))
    (hr : p.target.minute < 1440 ∨ lastMinute < p.target.minute) : s.declineReason p = some .range := by
  have out : dayInRange (dayOfMinute p.target.minute) = false := by
    rw [← Bool.not_eq_true, dayInRange_dayOfMinute]
    omega
  rw [State.declineReason, if_neg h, if_pos out]

/-- R34: with no ground before it, second 60 alone decides. -/
theorem State.declineReason_leap (h : ¬(p.source = .host ∧ (s.disc.state = .track ∨ s.disc.state = .holdover)))
    (h1 : 1440 ≤ p.target.minute) (h2 : p.target.minute ≤ lastMinute) :
    s.declineReason p = if p.target.second = 60 then some .leap else none := by
  have inside : ¬dayInRange (dayOfMinute p.target.minute) = false := by
    rw [dayInRange_dayOfMinute.2 ⟨h1, h2⟩]
    exact Bool.noConfusion
  rw [State.declineReason, if_neg h, if_neg inside]

end Decline

/-! ### The time step with a load pending -/

/-- R31: the state in which a load is considered holds none. -/
def State.noLoad (s : State) : State := { s with time := { s.time with pending := none } }

section TimeStep

variable {s : State} {p : PendingLoad}

theorem State.timeStep_declined {reason : DeclineReason} (hp : s.time.pending = some p)
    (hd : s.declineReason p = some reason) : s.timeStep = s.noLoad.declineLoad p reason := by
  simp only [State.timeStep, hp, hd]
  rfl

theorem State.timeStep_unchanged (hp : s.time.pending = some p) (hd : s.declineReason p = none)
    (hn : s.nextLabel = some p.target) : s.timeStep = s.noLoad.unchangedLoad p := by
  simp only [State.timeStep, hp, hd, hn]
  rfl

theorem State.timeStep_performed (hp : s.time.pending = some p) (hd : s.declineReason p = none)
    (hn : s.nextLabel ≠ some p.target) :
    s.timeStep = { state := s.noLoad.performLoad p, loaded := true, rangeEnd := false } := by
  simp only [State.timeStep, hp, hd, if_neg hn]
  rfl

/-- R31: after its consideration the pending load is absent. -/
theorem State.timeStep_pending (s : State) : s.timeStep.state.time.pending = none := by
  unfold State.timeStep
  dsimp only
  split
  · simp [State.plainAdvance]
  · split
    · simp [State.declineLoad]
    · split
      · unfold State.unchangedLoad
        dsimp only
        split <;> simp
      · exact (State.performLoad_label_pending _ _).2

/-- R22, R36: the advance can only post TIME_END. -/
theorem State.advanceLabel_postsOnly (s : State) : s.advanceLabel.postsOnly s [.timeEnd] := by
  unfold State.advanceLabel
  split
  · exact State.postsOnly_of_eq rfl
  · split
    · exact State.postsOnly_of_eq rfl
    · exact State.postsOnly_post rfl (by simp [NoticeData.kind]) _

/-- R34, R36: a declined load advances the label and is listed with its reason. -/
theorem State.declineLoad_spec (s : State) (p : PendingLoad) (reason : DeclineReason) :
    (s.declineLoad p reason).state.time.label = s.nextLabel ∧
      (NoticeKind.timeLoaded ∉ s.notices.mask →
        (s.declineLoad p reason).state.lists (.timeLoaded p.source (.declined reason) p.target) s.nextLabel) :=
  ⟨State.advanceLabel_label _, fun h =>
    (State.advanceLabel_postsOnly _).lists (by simp [NoticeData.kind]) (State.lists_post _ h)⟩

/-- R34, R36: a load found unchanged advances the label; from HOST it is listed and clears the expired flag, and from a reference it lists nothing. -/
theorem State.unchangedLoad_spec (s : State) (p : PendingLoad) :
    (s.unchangedLoad p).state.time.label = s.nextLabel ∧
      (p.source = .host → (s.unchangedLoad p).state.disc = { s.disc with expired := false } ∧
        (NoticeKind.timeLoaded ∉ s.notices.mask →
          (s.unchangedLoad p).state.lists (.timeLoaded .host .unchanged p.target) (some p.target))) ∧
      (p.source ≠ .host → (s.unchangedLoad p).state.postsOnly s [.timeEnd]) := by
  unfold State.unchangedLoad
  dsimp only
  split <;> rename_i hsrc
  · refine ⟨s.advanceLabel_label, fun _ => ⟨?_, fun h => ?_⟩, fun h => absurd hsrc h⟩
    · simp [State.clearExpired]
    · exact State.lists_post (s := s.advanceLabel) _ (by rwa [s.advanceLabel_postsOnly.1])
  · refine ⟨s.advanceLabel_label, fun h => ?_, fun _ => s.advanceLabel_postsOnly⟩
    rw [hsrc] at h
    cases h

/-- R110: an action of a performed load posts SLOT_STATE or TIME_LOADED. -/
theorem State.endAtLoad_postsOnly (s : State) (n : Nat) (l : Option Label) (k : SlotNo) :
    (s.endAtLoad n l k).postsOnly s [.slotState] := by
  unfold State.endAtLoad
  split
  · exact State.postsOnly_of_eq rfl
  · split
    · exact State.postsOnly.trans (State.postsOnly_of_eq rfl) (State.moveSlot_postsOnly _ _ _ _)
    · exact s.moveSlot_postsOnly _ _ _
    · exact (s.moveSlot_postsOnly _ _ _).trans (State.postsOnly_of_eq (State.uncarry_notices _ _))

theorem report_mem_loadActions (slots : Vector (Option Slot) 8) (n choice : Nat) :
    LoadAction.report ∈ loadActions slots n choice :=
  (interleave_perm _ _ _).mem_iff.2 (by simp)

theorem State.loadAction_postsOnly (p : PendingLoad) (s : State) (a : LoadAction) :
    (s.loadAction p a).postsOnly s [.slotState, .timeLoaded] := by
  cases a with
  | report => exact State.postsOnly_post rfl (by simp [NoticeData.kind]) _
  | endSlot k => exact (s.endAtLoad_postsOnly _ _ k).mono (by simp)

/-- R36: actions with the report among them list it, with the target as its label. -/
theorem State.loadActions_lists (p : PendingLoad) {as : List LoadAction} (ha : .report ∈ as) (s : State)
    (h : NoticeKind.timeLoaded ∉ s.notices.mask) :
    (as.foldl (State.loadAction p) s).lists (.timeLoaded p.source .loaded p.target) (some p.target) := by
  refine (foldl_reaches (fun t : State => t.notices.mask = s.notices.mask)
    (fun t => t.notices.mask = s.notices.mask ∧ t.lists (.timeLoaded p.source .loaded p.target) (some p.target))
    ha (fun t a _ ht => (t.loadAction_postsOnly p a).1.trans ht) (fun t ht => ?_) ?_ rfl).2
  · exact ⟨(t.loadAction_postsOnly p .report).1.trans ht, State.lists_post (s := t) _ (by rwa [ht])⟩
  · rintro t a - ⟨hm, hl⟩
    refine ⟨(t.loadAction_postsOnly p a).1.trans hm, ?_⟩
    cases a with
    | report => exact State.lists_post (s := t) _ (by rwa [hm])
    | endSlot k => exact (t.endAtLoad_postsOnly _ _ k).lists (by simp [NoticeData.kind]) hl

/-- R36: a performed load is listed. -/
theorem State.performLoad_lists (s : State) (p : PendingLoad) (h : NoticeKind.timeLoaded ∉ s.notices.mask) :
    (s.performLoad p).lists (.timeLoaded p.source .loaded p.target) (some p.target) := by
  simpa [State.lists, State.performLoad] using
    State.loadActions_lists p (report_mem_loadActions s.slots p.target.minute s.freeNow)
      ({ s with time := { s.time with label := some p.target } } : State).countFree h

/-- R80: of the discipline controller, a performed load from HOST clears the expired flag, and one from a reference leaves everything. -/
theorem State.performLoad_disc (s : State) (p : PendingLoad) :
    (s.performLoad p).disc = if p.source = .host then { s.disc with expired := false } else s.disc := by
  have actions : ∀ (as : List LoadAction) (t : State), (as.foldl (State.loadAction p) t).disc = t.disc :=
    foldl_keeps State.disc _ (fun t a => by simp)
  unfold State.performLoad State.clearIfHost
  dsimp only
  split <;> rename_i hsrc <;> simp [hsrc, actions, State.clearExpired]

/-- R125: a performed load marks the record in NEXT. -/
theorem State.performLoad_nextRecord (s : State) (p : PendingLoad) :
    (s.performLoad p).nextRecord = s.nextRecord.map (fun r => { r with stale := true }) := by
  have actions : ∀ (as : List LoadAction) (t : State), (as.foldl (State.loadAction p) t).nextRecord = t.nextRecord :=
    foldl_keeps State.nextRecord _ (fun t a => by simp)
  simp [State.performLoad, actions]

end TimeStep

/-! ### One slot under a move -/

section Slots

variable (s : State)

/-- A slot reads back what was put in its place, and the others stay. -/
theorem State.slot_setSlot (k j : SlotNo) (x : Option Slot) :
    (s.setSlot k x).slot j = if j = k then x else s.slot j := by
  unfold State.slot State.setSlot
  by_cases h : j = k
  · subst h; simp
  · have : k.val ≠ j.val := fun e => h (Fin.ext e.symm)
    simp [h, this]

theorem State.slot_congr {s t : State} (h : t.slots = s.slots) (k : SlotNo) : t.slot k = s.slot k := by
  simp [State.slot, h]

/-- R110: a move gives one slot its new state. -/
theorem State.slot_moveSlot (k j : SlotNo) (st : SlotState) (l : Option Label) :
    (s.moveSlot k st l).slot j = if j = k then (s.slot k).map (fun x => { x with state := st }) else s.slot j := by
  unfold State.moveSlot
  split
  · rename_i h
    split
    · rename_i hj; rw [hj, h]; rfl
    · rfl
  · rename_i x h
    rw [h]
    dsimp only
    split <;> exact s.slot_setSlot k j _

/-- A carried flag cleared changes one slot's flag. -/
theorem State.slot_uncarry (k j : SlotNo) :
    (s.uncarry k).slot j = if j = k then (s.slot k).map (fun x => { x with carried := false }) else s.slot j := by
  unfold State.uncarry
  split
  · rename_i h
    split
    · rename_i hj; rw [hj, h]; rfl
    · rfl
  · rename_i x h
    rw [h]
    exact s.slot_setSlot k j _

/-- R104, R105: a slot that a load ends is DONE. -/
theorem State.slot_endAtLoad (n : Nat) (l : Option Label) (k j : SlotNo) :
    (j ≠ k → (s.endAtLoad n l k).slot j = s.slot j) ∧
      ∀ x, (s.endAtLoad n l k).slot k = some x → ∃ o, x.state = .done o := by
  have moved : ∀ (t : State) (o : SlotOutcome) x, (t.moveSlot k (.done o) l).slot k = some x → ∃ o, x.state = .done o := by
    intro t o x hx
    rw [State.slot_moveSlot, if_pos rfl] at hx
    obtain ⟨y, -, rfl⟩ := Option.map_eq_some_iff.1 hx
    exact ⟨o, rfl⟩
  unfold State.endAtLoad
  split
  · rename_i h
    exact ⟨fun _ => rfl, fun x hx => by rw [h] at hx; cases hx⟩
  · split
    · refine ⟨fun hj => ?_, fun x hx => moved _ _ x hx⟩
      rw [State.slot_moveSlot, if_neg hj]
      rfl
    · exact ⟨fun hj => by rw [State.slot_moveSlot, if_neg hj], fun x hx => moved _ _ x hx⟩
    · refine ⟨fun hj => by rw [State.slot_uncarry, if_neg hj, State.slot_moveSlot, if_neg hj], fun x hx => ?_⟩
      rw [State.slot_uncarry, if_pos rfl] at hx
      obtain ⟨y, hy, rfl⟩ := Option.map_eq_some_iff.1 hx
      exact moved _ _ y hy

end Slots

/-! ### Slots clear of the minutes before a minute -/

/-- A slot that is no ZONE or LEAP slot COMMITTED, or active with an effective minute before m. -/
def Slot.clearOf (m : Nat) (x : Slot) : Prop :=
  x.content.kind ≠ .service → x.state ≠ .committed ∧ (x.state.active = true → m ≤ x.content.minute)

/-- Every slot is so. -/
def State.slotsClearOf (s : State) (m : Nat) : Prop := ∀ k x, s.slot k = some x → x.clearOf m

theorem Slot.clearOf_done {m : Nat} {x : Slot} {o : SlotOutcome} (h : x.state = .done o) : x.clearOf m :=
  fun _ => by simp [h, SlotState.active]

theorem State.slotsClearOf_of_eq {s t : State} {m : Nat} (h : s.slotsClearOf m) (ht : t.slots = s.slots) :
    t.slotsClearOf m := fun k x hx => h k x (by rwa [← State.slot_congr ht])

/-- A move keeps the slots clear where the moved slot is clear in its new state. -/
theorem State.slotsClearOf_moveSlot {s : State} {m : Nat} {k : SlotNo} {st : SlotState} {l : Option Label}
    (h : s.slotsClearOf m) (hk : ∀ x, s.slot k = some x → ({ x with state := st } : Slot).clearOf m) :
    (s.moveSlot k st l).slotsClearOf m := by
  intro j x hx
  rw [State.slot_moveSlot] at hx
  split at hx
  · obtain ⟨y, hy, rfl⟩ := Option.map_eq_some_iff.1 hx
    exact hk y hy
  · exact h j x hx

theorem State.slotsClearOf_uncarry {s : State} {m : Nat} {k : SlotNo} (h : s.slotsClearOf m) :
    (s.uncarry k).slotsClearOf m := by
  intro j x hx
  rw [State.slot_uncarry] at hx
  split at hx
  · obtain ⟨y, hy, rfl⟩ := Option.map_eq_some_iff.1 hx
    exact h k y hy
  · exact h j x hx

/-! ### What a performed load ends -/

theorem insertByMinute_perm {α : Type} (p : Nat × α) (ps : List (Nat × α)) : (insertByMinute p ps).Perm (p :: ps) := by
  induction ps with
  | nil => exact List.Perm.refl _
  | cons q qs ih =>
    unfold insertByMinute
    split
    · exact List.Perm.refl _
    · exact (ih.cons q).trans (List.Perm.swap p q qs)

theorem sortByMinute_perm {α : Type} (ps : List (Nat × α)) : (sortByMinute ps).Perm ps := by
  induction ps with
  | nil => exact List.Perm.refl _
  | cons p ps ih => exact (insertByMinute_perm p _).trans (ih.cons p)

theorem mem_allSlots (k : SlotNo) : k ∈ allSlots := by
  revert k
  decide

/-- R104: an active ZONE slot that is marked ends at the load. -/
theorem mem_endingZones {slots : Vector (Option Slot) 8} {n : Nat} {k : SlotNo} {x : Slot} {p : Nat × Zone}
    (hk : slots[k] = some x) (hp : x.zonePart = some p) (hm : x.zoneMarked n = true) : k ∈ endingZones slots n := by
  refine List.mem_map.2 ⟨(p.1, k, true), (sortByMinute_perm _).mem_iff.2 (List.mem_filter.2 ⟨?_, by simp⟩), rfl⟩
  exact List.mem_filterMap.2 ⟨k, mem_allSlots k, by simp [hk, hp, hm]⟩

/-- R104, R105: every slot that is marked or otherwise ends is among the actions of the load. -/
theorem endSlot_mem_loadActions {slots : Vector (Option Slot) 8} {n choice : Nat} {k : SlotNo} {x : Slot}
    (hk : slots[k] = some x)
    (h : (∃ p, x.zonePart = some p ∧ x.zoneMarked n = true) ∨ x.otherEnding n = true) :
    LoadAction.endSlot k ∈ loadActions slots n choice := by
  refine (interleave_perm _ _ _).mem_iff.2 ?_
  rcases h with ⟨p, hp, hm⟩ | ho
  · exact List.mem_append_right _ (List.mem_map_of_mem (mem_endingZones hk hp hm))
  · refine List.mem_append_left _ (List.mem_cons_of_mem _ (List.mem_map_of_mem (List.mem_filter.2 ⟨mem_allSlots k, ?_⟩)))
    simp [hk, ho]

/-- R104, R105: a ZONE or LEAP slot that a load to minute n does not end is active for a minute from n + 3 on, or DONE. -/
theorem Slot.clearOf_of_not_ending {x : Slot} {n : Nat} (hz : ∀ p, x.zonePart = some p → x.zoneMarked n = false)
    (ho : x.otherEnding n = false) : x.clearOf (n + 3) := by
  obtain ⟨st, content, carried⟩ := x
  intro hkind
  cases content with
  | service a b c => exact absurd rfl hkind
  | zone e z w =>
    cases st <;> simp_all [Slot.zonePart, Slot.zoneMarked, SlotState.active, SlotContent.minute]
  | leap d dir w =>
    cases st <;> simp_all [Slot.otherEnding, SlotState.active, SlotContent.minute]

/-- R104, R105: after a performed load no ZONE or LEAP slot is COMMITTED, or active for a minute before the third after the target's. -/
theorem State.performLoad_clear (s : State) (p : PendingLoad) :
    (s.performLoad p).slotsClearOf (p.target.minute + 3) := by
  have same : (s.performLoad p).slots =
      ((loadActions s.slots p.target.minute s.freeNow).foldl (State.loadAction p)
        ({ s with time := { s.time with label := some p.target } } : State).countFree).slots := by
    simp [State.performLoad]
  intro k x hx
  rw [State.slot_congr same] at hx
  generalize hs' : ({ s with time := { s.time with label := some p.target } } : State).countFree = s' at hx
  have start : s'.slot k = s.slot k := by rw [← hs']; rfl
  by_cases hmem : LoadAction.endSlot k ∈ loadActions s.slots p.target.minute s.freeNow
  · have done : ∀ y, ((loadActions s.slots p.target.minute s.freeNow).foldl (State.loadAction p) s').slot k = some y →
        ∃ o, y.state = .done o := by
      refine foldl_reaches (fun _ => True) (fun t : State => ∀ y, t.slot k = some y → ∃ o, y.state = .done o)
        hmem (fun _ _ _ _ => trivial) (fun t _ => (t.slot_endAtLoad _ _ k k).2) (fun t a _ ht => ?_) trivial
      cases a with
      | report => exact ht
      | endSlot j =>
        by_cases hj : k = j
        · subst hj; exact (t.slot_endAtLoad _ _ k k).2
        · rwa [show (State.loadAction p t (.endSlot j)).slot k = t.slot k from (t.slot_endAtLoad _ _ j k).1 hj]
    obtain ⟨o, ho⟩ := done x hx
    exact Slot.clearOf_done ho
  · have kept : ((loadActions s.slots p.target.minute s.freeNow).foldl (State.loadAction p) s').slot k = s'.slot k := by
      refine List.foldlRecOn _ _ (motive := fun t : State => t.slot k = s'.slot k) rfl (fun t ht a ha => ?_)
      cases a with
      | report => exact ht
      | endSlot j =>
        have hj : k ≠ j := fun e => hmem (e ▸ ha)
        exact ((t.slot_endAtLoad _ _ j k).1 hj).trans ht
    rw [kept, start] at hx
    refine Slot.clearOf_of_not_ending (fun q hq => ?_) ?_
    · exact Bool.eq_false_iff.2 (fun hm => hmem (endSlot_mem_loadActions hx (Or.inl ⟨q, hq, hm⟩)))
    · exact Bool.eq_false_iff.2 (fun ho => hmem (endSlot_mem_loadActions hx (Or.inr ho)))

/-! ### The table behind a load -/

/-- R98, R100: composing for the minute before d, a slot that is clear of the minutes up to d stays so. -/
theorem Slot.clearOf_atComposition {x : Slot} {d : Nat} {st : SlotState} (h : x.clearOf (d + 2))
    (hc : x.atComposition d (d + 1) = some st) : ({ x with state := st } : Slot).clearOf (d + 2) := by
  obtain ⟨st0, content, carried⟩ := x
  intro hkind
  obtain ⟨hcom, hact⟩ := h hkind
  cases content with
  | service a b c => exact absurd rfl hkind
  | zone e z w =>
    cases st0 with
    | armed =>
      have late : d + 2 ≤ e := hact rfl
      have ne : ¬d + 1 = e := by omega
      simp only [Slot.atComposition, ne, if_false] at hc
      split at hc
      · obtain rfl := Option.some.inj hc
        exact ⟨by simp, fun _ => late⟩
      · cases hc
    | announcing =>
      have late : d + 2 ≤ e := hact rfl
      have ne : ¬d + 1 = e := by omega
      simp [Slot.atComposition, ne] at hc
    | committed => exact absurd rfl hcom
    | done o => simp [Slot.atComposition] at hc
  | leap day dir w =>
    cases st0 with
    | armed =>
      have late : d + 2 ≤ leapMinute day := hact rfl
      have ne : ¬d = leapMinute day := by omega
      simp only [Slot.atComposition, ne, if_false] at hc
      split at hc
      · obtain rfl := Option.some.inj hc
        exact ⟨by simp, fun _ => late⟩
      · cases hc
    | announcing =>
      have late : d + 2 ≤ leapMinute day := hact rfl
      have ne : ¬d = leapMinute day := by omega
      simp [Slot.atComposition, ne] at hc
    | committed => exact absurd rfl hcom
    | done o => simp [Slot.atComposition] at hc

theorem State.slotsClearOf_slotAtComposition {s : State} {d : Nat} (l : Option Label) (n : SlotNo)
    (h : s.slotsClearOf (d + 2)) : (State.slotAtComposition d (d + 1) l s n).slotsClearOf (d + 2) := by
  have move : ∀ st, ((s.slot n).bind (fun x => x.atComposition d (d + 1))) = some st →
      (s.moveSlot n st l).slotsClearOf (d + 2) := by
    intro st hst
    obtain ⟨y, hy, hc⟩ := Option.bind_eq_some_iff.1 hst
    refine State.slotsClearOf_moveSlot h (fun x hx => ?_)
    obtain rfl := Option.some.inj (hy.symm.trans hx)
    exact Slot.clearOf_atComposition (h n y hy) hc
  unfold State.slotAtComposition
  split
  · exact h
  · rename_i hst
    exact State.slotsClearOf_uncarry (move _ hst)
  · rename_i st _ hst
    exact move st hst

/-- R101: the carried flags change nothing else. -/
theorem State.slotsClearOf_setCarried {s : State} {m : Nat} (d : Nat) (h : s.slotsClearOf m) :
    (s.setCarried d).slotsClearOf m := by
  intro k x hx
  have read : (s.setCarried d).slot k = carryFlag (serviceSupplier s.slots d) k (s.slot k) := by
    simp [State.setCarried, State.slot]
  rw [read] at hx
  obtain ⟨y, hy, hxy⟩ := Option.map_eq_some_iff.1 hx
  have hclear := h k y hy
  split at hxy <;> obtain rfl := hxy <;> exact hclear

/-- R97: a composition at a label keeps the slots clear of the minutes up to the third after it. -/
theorem State.slotsClearOf_composition {s : State} {l : Label} (h : s.slotsClearOf (l.minute + 3)) :
    (s.composition (some l)).slotsClearOf (l.minute + 3) := by
  have table : (s.tableAtComposition (l.minute + 1) (l.minute + 2) (some l)).slotsClearOf (l.minute + 3) :=
    State.slotsClearOf_setCarried _ (List.foldlRecOn _ _ (motive := fun t : State => t.slotsClearOf (l.minute + 3))
      (State.slotsClearOf_of_eq h rfl) (fun t ht n _ => State.slotsClearOf_slotAtComposition (some l) n ht))
  unfold State.composition
  split
  · rename_i l' q hl hq
    obtain rfl := Option.some.inj hl
    split
    · exact State.slotsClearOf_of_eq table (by simp [State.compose])
    · exact h
  · exact h

/-- R102, R103: so does the boundary of the label's minute. -/
theorem State.slotsClearOf_slotAtBoundary {s : State} {m : Nat} (l : Option Label) (n : SlotNo)
    (h : s.slotsClearOf (m + 3)) : (State.slotAtBoundary m l s n).slotsClearOf (m + 3) := by
  unfold State.slotAtBoundary
  split
  · exact h
  · rename_i x hx
    have leap_late : ∀ day dir w, x.content = .leap day dir w → x.state.active = true → m + 3 ≤ leapMinute day := by
      intro day dir w hc ha
      simpa [hc, SlotContent.minute] using (h n x hx (by simp [hc, SlotContent.kind])).2 ha
    split
    · exact h
    · split
      · exact State.slotsClearOf_moveSlot (State.slotsClearOf_of_eq h rfl) (fun y _ => Slot.clearOf_done rfl)
      · exact h
    · rename_i day dir w hc hst
      have late := leap_late day dir w hc (by simp [hst, SlotState.active])
      rw [if_neg (by omega)]
      exact h
    · rename_i day dir w hc hst
      have late := leap_late day dir w hc (by simp [hst, SlotState.active])
      rw [if_neg (by omega)]
      exact h
    · split
      · exact State.slotsClearOf_moveSlot h (fun y _ => Slot.clearOf_done rfl)
      · exact h
    · exact h

/-- R34: behind a load to this label no reaction leaves a ZONE or LEAP slot COMMITTED. -/
theorem State.slotsClearOf_react {c : EpochCtx} {s : State} {l : Label} (hl : c.label = some l) (x : Reaction)
    (h : s.slotsClearOf (l.minute + 3)) : (s.react c x).slotsClearOf (l.minute + 3) := by
  by_cases hcomp : x = .composition
  · subst hcomp
    simp only [State.react, hl]
    exact State.slotsClearOf_composition h
  by_cases htable : x = .table
  · subst htable
    simp only [State.react, State.tableEpoch, hl]
    split
    · exact List.foldlRecOn _ _ (motive := fun t : State => t.slotsClearOf (l.minute + 3))
        (State.slotsClearOf_of_eq h rfl) (fun t ht n _ => State.slotsClearOf_slotAtBoundary (some l) n ht)
    · exact h
  · exact State.slotsClearOf_of_eq h (s.react_slots c hcomp htable)

/-! ### The records behind a load -/

theorem State.setMode_air (s : State) (m : KeyMode) (k : KeyCause) (l : Option Label) :
    (s.setMode m k l).keyer.air = s.keyer.air := by
  unfold State.setMode
  split <;> rfl

theorem State.envelopeInForce_air (s : State) : s.envelopeInForce.keyer.air = s.keyer.air := by
  unfold State.envelopeInForce
  split <;> rfl

/-- R131: a marked record fails one of the three tests. -/
theorem Record.failedTest_of_stale {r : Record} (m length : Nat) (h : r.stale = true) : r.failedTest m length ≠ none := by
  unfold Record.failedTest
  split
  · simp
  · split <;> simp

/-- R131: a record that is missing or marked leaves AIR empty, and NEXT is empty behind the taking. -/
theorem State.takeRecord_marked {s : State} (m : Nat) (l : Option Label)
    (h : ∀ r, s.nextRecord = some r → r.stale = true) :
    (s.takeRecord m l).nextRecord = none ∧ (s.takeRecord m l).keyer.air = none := by
  unfold State.takeRecord
  dsimp only
  split
  · exact ⟨rfl, rfl⟩
  · rename_i r hr
    have marked := h r hr
    split
    · rename_i ht
      exact absurd ht (Record.failedTest_of_stale m _ marked)
    · exact ⟨rfl, rfl⟩

/-- R131: so does the keyer at a boundary. -/
theorem State.keyerEpoch_marked {s : State} {c : EpochCtx} {l : Label} (hl : c.label = some l) (h0 : l.second = 0)
    (h : ∀ r, s.nextRecord = some r → r.stale = true) :
    (s.keyerEpoch c).nextRecord = none ∧ (s.keyerEpoch c).keyer.air = none := by
  obtain ⟨hnext, hair⟩ := s.takeRecord_marked l.minute c.label h
  have next : (s.keyerEpoch c).nextRecord = (s.takeRecord l.minute c.label).nextRecord := by
    simp [State.keyerEpoch, hl, h0, State.keyerBoundary]
  have air : (s.keyerEpoch c).keyer.air = (s.takeRecord l.minute c.label).keyer.air := by
    simp [State.keyerEpoch, hl, h0, State.keyerBoundary, State.makeSchedule, State.setMode_air,
      State.envelopeInForce_air]
  exact ⟨next.trans hnext, air.trans hair⟩

/-- R112: the composer composes at second 50 alone. -/
theorem State.composition_of_ne {s : State} {l : Label} (h : l.second ≠ 50) : s.composition (some l) = s := by
  unfold State.composition
  split
  · rename_i l' q hl hq
    obtain rfl := Option.some.inj hl
    exact if_neg h
  · rfl

/-- R125, R131: the reactions at a boundary empty NEXT and AIR where the record in NEXT is missing or marked. -/
theorem State.reactions_empty_records {c : EpochCtx} {l : Label} (hl : c.label = some l) (h0 : l.second = 0)
    {order : List Reaction} (hk : Reaction.keyer ∈ order) {s : State}
    (h : ∀ r, s.nextRecord = some r → r.stale = true) :
    (order.foldl (State.react c) s).nextRecord = none ∧ (order.foldl (State.react c) s).keyer.air = none := by
  have others : ∀ (t : State) x, x ≠ Reaction.keyer → (t.react c x).nextRecord = t.nextRecord := by
    intro t x hx
    by_cases hcomp : x = .composition
    · subst hcomp
      simp only [State.react, hl]
      rw [State.composition_of_ne (by omega)]
    · exact t.react_nextRecord c hx hcomp
  refine foldl_reaches (fun t : State => ∀ r, t.nextRecord = some r → r.stale = true)
    (fun t => t.nextRecord = none ∧ t.keyer.air = none) hk (fun t x _ ht => ?_)
    (fun t ht => State.keyerEpoch_marked hl h0 ht) (fun t x _ ht => ?_) h
  · by_cases hx : x = .keyer
    · subst hx
      intro r hr
      rw [show (t.react c .keyer).nextRecord = none from (State.keyerEpoch_marked hl h0 ht).1] at hr
      cases hr
    · rwa [others t x hx]
  · by_cases hx : x = .keyer
    · subst hx
      exact State.keyerEpoch_marked hl h0 (fun r hr => by rw [ht.1] at hr; cases hr)
    · rw [others t x hx, t.react_keyer c hx]
      exact ht

/-- R112, R131: at an epoch of another second than 0 and 50 no reaction touches NEXT. -/
theorem State.reactions_nextRecord {c : EpochCtx} {l : Label} (hl : c.label = some l) (h0 : l.second ≠ 0)
    (h50 : l.second ≠ 50) (order : List Reaction) (s : State) :
    (order.foldl (State.react c) s).nextRecord = s.nextRecord := by
  refine foldl_keeps State.nextRecord _ (fun t x => ?_) order s
  by_cases hk : x = .keyer
  · subst hk
    simp [State.react, State.keyerEpoch, hl, h0]
  by_cases hcomp : x = .composition
  · subst hcomp
    simp only [State.react, hl]
    rw [State.composition_of_ne h50]
  · exact t.react_nextRecord c hk hcomp

/-! ### The observation behind a load -/

/-- R139: of the monitor, the keyer gives it the mode and symbol of the second alone. -/
theorem State.keyerEpoch_monitor (s : State) (c : EpochCtx) :
    (s.keyerEpoch c).monitor.observation = s.monitor.observation ∧ (s.keyerEpoch c).monitor.record = s.monitor.record := by
  unfold State.keyerEpoch
  split
  · split <;> simp [State.makeSchedule]
  · simp [State.makeSchedule]

/-- R156: a load abandons the minute under observation, and a boundary opens the loaded one; no record is stored. -/
theorem State.monitorEpoch_loaded (s : State) {c : EpochCtx} {l : Label} (hl : c.label = some l) (hc : c.loaded = true) :
    (s.monitorEpoch c).monitor.record = s.monitor.record ∧
      (s.monitorEpoch c).monitor.observation =
        if l.second = 0 then some { minute := l.minute, length := none, entries := [] } else none := by
  unfold State.monitorEpoch
  simp only [hl, hc, Bool.true_or, if_true]
  split <;> simp [State.judge, State.openObservation, State.abandon, State.closeSecond]

/-- So do the reactions of an epoch at which a load is performed. -/
theorem State.reactions_monitor {c : EpochCtx} {l : Label} (hl : c.label = some l) (hc : c.loaded = true)
    {order : List Reaction} (hm : Reaction.monitor ∈ order) (s : State) :
    (order.foldl (State.react c) s).monitor.record = s.monitor.record ∧
      (order.foldl (State.react c) s).monitor.observation =
        if l.second = 0 then some { minute := l.minute, length := none, entries := [] } else none := by
  have record : ∀ (t : State) x, (t.react c x).monitor.record = t.monitor.record := by
    intro t x
    by_cases hk : x = .keyer
    · subst hk; exact (t.keyerEpoch_monitor c).2
    by_cases hx : x = .monitor
    · subst hx; exact (t.monitorEpoch_loaded hl hc).1
    · rw [t.react_monitor c hk hx]
  refine ⟨foldl_keeps (fun t : State => t.monitor.record) _ record order s, ?_⟩
  refine foldl_reaches (fun _ => True)
    (fun t : State => t.monitor.observation =
      if l.second = 0 then some { minute := l.minute, length := none, entries := [] } else none)
    hm (fun _ _ _ _ => trivial) (fun t _ => (t.monitorEpoch_loaded hl hc).2) (fun t x _ ht => ?_) trivial
  by_cases hk : x = .keyer
  · subst hk; exact (t.keyerEpoch_monitor c).1.trans ht
  by_cases hx : x = .monitor
  · subst hx; exact (t.monitorEpoch_loaded hl hc).2
  · rwa [t.react_monitor c hk hx]

/-! ### The epoch that meets a load -/

/-- The reactions leave the label and the pending load. -/
theorem State.reactions_label_pending (c : EpochCtx) (order : List Reaction) (s : State) :
    (order.foldl (State.react c) s).time.label = s.time.label ∧
      (order.foldl (State.react c) s).time.pending = s.time.pending :=
  ⟨foldl_keeps (fun t : State => t.time.label) _ (fun t x => (t.react_label_pending c x).1) order s,
    foldl_keeps (fun t : State => t.time.pending) _ (fun t x => (t.react_label_pending c x).2) order s⟩

/-- R80: an expired flag that is clear in FREE or ACQUIRE stays clear. -/
theorem State.reactions_expired {c : EpochCtx} (order : List Reaction) {s : State} (h : s.disc.unlocked)
    (he : s.disc.expired = false) : (order.foldl (State.react c) s).disc.expired = false := by
  refine (List.foldlRecOn order _ (motive := fun t : State => t.disc.unlocked ∧ t.disc.expired = false) ⟨h, he⟩
    (fun t ht x _ => ?_)).2
  have eased := State.react_eased c x ht.1
  exact ⟨eased.unlocked, eased.expired.trans ht.2⟩

section Epoch

variable {s : State}

/-- The next epoch meets the label, the load, the slots and the discipline state of this second. -/
theorem State.atEpoch_nextLabel (s : State) : s.atEpoch.nextLabel = s.nextLabel := by
  simp [State.nextLabel]

theorem State.atEpoch_declineReason (s : State) (p : PendingLoad) : s.atEpoch.declineReason p = s.declineReason p := by
  simp [State.declineReason, State.atEpoch_disc]

/-- What a next epoch keeps of its time step. -/
theorem State.nextEpoch_of_timeStep (h : s.resetHeld = false) :
    s.nextEpoch.time.label = s.atEpoch.timeStep.state.time.label ∧ s.nextEpoch.time.pending = none ∧
      s.nextEpoch.counter = { phase := 0, length := 10000000 } ∧
      s.nextEpoch.postsOnly s.atEpoch.timeStep.state
        [.refState, .select, .discState, .holdoverLimit, .slotState, .recordDiscard, .keyMode, .monVerdict,
          .changeover] := by
  rw [State.nextEpoch_eq h]
  obtain ⟨hlabel, hpend⟩ := State.reactions_label_pending s.nextCtx s.nextOrder s.atEpoch.timeStep.state
  refine ⟨hlabel, hpend.trans (State.timeStep_pending _), ?_, State.reactions_postsOnly _ _ _⟩
  exact (foldl_keeps State.counter _ (fun t x => by simp) _ _).trans (by simp)

/-- R34, R36: a load declined at the next epoch. -/
theorem State.nextEpoch_declined {p : PendingLoad} {reason : DeclineReason} (h : s.resetHeld = false)
    (hp : s.time.pending = some p) (hd : s.declineReason p = some reason) :
    s.nextEpoch.time.label = s.nextLabel ∧
      (NoticeKind.timeLoaded ∉ s.notices.mask →
        s.nextEpoch.lists (.timeLoaded p.source (.declined reason) p.target) s.nextLabel) := by
  obtain ⟨hlabel, -, -, hposts⟩ := State.nextEpoch_of_timeStep h
  have step : s.atEpoch.timeStep = s.atEpoch.noLoad.declineLoad p reason :=
    State.timeStep_declined (by simpa using hp) (by rwa [State.atEpoch_declineReason])
  have next : s.atEpoch.noLoad.nextLabel = s.nextLabel := s.atEpoch_nextLabel
  obtain ⟨label, listed⟩ := s.atEpoch.noLoad.declineLoad_spec p reason
  rw [step] at hlabel hposts
  rw [next] at label listed
  exact ⟨hlabel.trans label, fun hm => hposts.lists (by simp [NoticeData.kind]) (listed (by simpa [State.noLoad] using hm))⟩

/-- R34, R36, R80: a load found unchanged at the next epoch. -/
theorem State.nextEpoch_unchanged {p : PendingLoad} (h : s.resetHeld = false) (hp : s.time.pending = some p)
    (hd : s.declineReason p = none) (hn : s.nextLabel = some p.target) :
    s.nextEpoch.time.label = some p.target ∧
      (p.source = .host → s.disc.unlocked → s.nextEpoch.disc.expired = false) ∧
      (p.source = .host → NoticeKind.timeLoaded ∉ s.notices.mask →
        s.nextEpoch.lists (.timeLoaded .host .unchanged p.target) (some p.target)) ∧
      (p.source ≠ .host → (∀ e ∈ s.notices.entries, e.data.kind ≠ .timeLoaded) →
        ∀ e ∈ s.nextEpoch.notices.entries, e.data.kind ≠ .timeLoaded) := by
  obtain ⟨hlabel, -, -, hposts⟩ := State.nextEpoch_of_timeStep h
  have step : s.atEpoch.timeStep = s.atEpoch.noLoad.unchangedLoad p :=
    State.timeStep_unchanged (by simpa using hp) (by rwa [State.atEpoch_declineReason])
      (by rwa [State.atEpoch_nextLabel])
  have next : s.atEpoch.noLoad.nextLabel = s.nextLabel := s.atEpoch_nextLabel
  have notices : s.atEpoch.noLoad.notices = s.notices := by simp [State.noLoad]
  have disc : s.atEpoch.noLoad.disc.state = s.disc.state := by simp [State.noLoad, State.atEpoch_disc]
  obtain ⟨label, host, reference⟩ := s.atEpoch.noLoad.unchangedLoad_spec p
  refine ⟨hlabel.trans (by rw [step, label, next, hn]), fun hsrc hu => ?_, fun hsrc hm => ?_, fun hsrc hnone => ?_⟩
  · rw [State.nextEpoch_eq h, step]
    refine State.reactions_expired _ ?_ (by rw [(host hsrc).1])
    rw [(host hsrc).1]
    simpa only [Discipline.unlocked, disc] using hu
  · rw [step] at hposts
    exact hposts.lists (by simp [NoticeData.kind]) ((host hsrc).2 (by rwa [notices]))
  · intro e he hkind
    rw [step] at hposts
    have listed := ((reference hsrc).2 e (by simp [hkind])).1 ((hposts.2 e (by simp [hkind])).1 he)
    exact hnone e (by rwa [notices] at listed) hkind

/-- R34, R36, R80, R104, R105, R125, R156: a load performed at the next epoch. -/
theorem State.nextEpoch_performed {p : PendingLoad} (h : s.resetHeld = false) (hp : s.time.pending = some p)
    (hd : s.declineReason p = none) (hn : s.nextLabel ≠ some p.target) :
    s.nextEpoch.time.label = some p.target ∧
      (p.source = .host → s.disc.unlocked → s.nextEpoch.disc.expired = false) ∧
      (NoticeKind.timeLoaded ∉ s.notices.mask →
        s.nextEpoch.lists (.timeLoaded p.source .loaded p.target) (some p.target)) ∧
      (p.target.second ≠ 0 → p.target.second ≠ 50 →
        s.nextEpoch.nextRecord = s.nextRecord.map (fun r => { r with stale := true })) ∧
      (p.target.second = 0 → s.nextEpoch.nextRecord = none ∧ s.nextEpoch.keyer.air = none) ∧
      (s.nextEpoch.monitor.record = s.monitor.record ∧
        s.nextEpoch.monitor.observation =
          if p.target.second = 0 then some { minute := p.target.minute, length := none, entries := [] } else none) ∧
      s.nextEpoch.slotsClearOf (p.target.minute + 3) := by
  obtain ⟨hlabel, -, -, hposts⟩ := State.nextEpoch_of_timeStep h
  have step : s.atEpoch.timeStep = { state := s.atEpoch.noLoad.performLoad p, loaded := true, rangeEnd := false } :=
    State.timeStep_performed (by simpa using hp) (by rwa [State.atEpoch_declineReason])
      (by rwa [State.atEpoch_nextLabel])
  have target := (s.atEpoch.noLoad.performLoad_label_pending p).1
  have label : s.nextCtx.label = some p.target := by rw [State.nextCtx_label, step]; exact target
  have loaded : s.nextCtx.loaded = true := by rw [State.nextCtx_loaded, step]
  have record : (s.atEpoch.noLoad.performLoad p).nextRecord = s.nextRecord.map (fun r => { r with stale := true }) := by
    rw [State.performLoad_nextRecord]
    simp [State.noLoad]
  have epoch := State.nextEpoch_eq h
  rw [step] at hlabel hposts epoch
  refine ⟨hlabel.trans target, fun hsrc hu => ?_, fun hm => ?_, fun h0 h50 => ?_, fun h0 => ?_, ?_, ?_⟩
  · have disc : (s.atEpoch.noLoad.performLoad p).disc = { s.atEpoch.disc with expired := false } := by
      rw [State.performLoad_disc, if_pos hsrc]
      rfl
    rw [epoch]
    refine State.reactions_expired _ ?_ (by rw [disc])
    rw [disc]
    simpa only [Discipline.unlocked, State.atEpoch_disc] using hu
  · exact hposts.lists (by simp [NoticeData.kind]) (State.performLoad_lists _ p (by simpa [State.noLoad] using hm))
  · rw [epoch, State.reactions_nextRecord label h0 h50, record]
  · rw [epoch]
    refine State.reactions_empty_records label h0 (s.mem_nextOrder _) (fun r hr => ?_)
    rw [record] at hr
    obtain ⟨q, -, rfl⟩ := Option.map_eq_some_iff.1 hr
    rfl
  · rw [epoch]
    obtain ⟨hrec, hobs⟩ := State.reactions_monitor label loaded (s.mem_nextOrder _) (s.atEpoch.noLoad.performLoad p)
    refine ⟨hrec.trans ?_, hobs⟩
    rw [← s.atEpoch_monitor_record]
    simp [State.noLoad]
  · rw [epoch]
    exact List.foldlRecOn _ _ (motive := fun t : State => t.slotsClearOf (p.target.minute + 3))
      (s.atEpoch.noLoad.performLoad_clear p) (fun t ht x _ => State.slotsClearOf_react label x ht)

end Epoch

/-- Settles O34: the first ground that holds declines the load; without one it is unchanged or performed, and the reactions behind the time step keep what it left. -/
theorem pendingLoadIsConsideredAtTheEpoch : Obligations.PendingLoadIsConsideredAtTheEpoch := by
  intro s p h hp
  obtain ⟨-, hpend, hcounter, -⟩ := State.nextEpoch_of_timeStep h
  refine ⟨s.nextEpoch, rfl, hpend, hcounter, fun reason hr => State.nextEpoch_declined h hp ?_, fun hs h1 h2 h60 => ?_⟩
  · rcases hr with ⟨hs, rfl⟩ | ⟨hs, hr, rfl⟩ | ⟨hs, h1, h2, h60, rfl⟩
    · exact State.declineReason_state hs
    · exact State.declineReason_range hs hr
    · rw [State.declineReason_leap hs h1 h2, if_pos h60]
  · have hd : s.declineReason p = none := by rw [State.declineReason_leap hs h1 h2, if_neg h60]
    have unlocked : p.source = .host → s.disc.unlocked := by
      intro hsrc
      cases hstate : s.disc.state with
      | free => exact Or.inl hstate
      | acquire => exact Or.inr hstate
      | track => exact absurd ⟨hsrc, Or.inl hstate⟩ hs
      | holdover => exact absurd ⟨hsrc, Or.inr hstate⟩ hs
    by_cases hn : s.nextLabel = some p.target
    · obtain ⟨label, expired, listed, silent⟩ := State.nextEpoch_unchanged h hp hd hn
      exact ⟨label, fun hsrc => expired hsrc (unlocked hsrc), fun _ => ⟨listed, silent⟩, fun hne => absurd hn hne⟩
    · obtain ⟨label, expired, listed, marked, emptied, ⟨record, observation⟩, clear⟩ :=
        State.nextEpoch_performed h hp hd hn
      refine ⟨label, fun hsrc => expired hsrc (unlocked hsrc), fun he => absurd he hn, fun _ =>
        ⟨listed, marked, emptied, fun h0 => ?_, fun h0 => ?_, record, fun k x hx hkind => (clear k x hx hkind).1⟩⟩
      · rw [observation, if_neg h0]
      · rw [observation, if_pos h0]

end Sys2Proof.Machine
end

section
/-! Proofs: the epoch at the end of the range (O35): the time step, the keyer, and the discipline controller under every order of the reactions. -/

namespace Sys2Proof.Machine

/-! ### The time step at the end of the range -/

/-- R20, R22: an epoch with no load pending advances the label. -/
theorem State.timeStep_plain {s : State} (hp : s.time.pending = none) : s.timeStep = s.noLoad.plainAdvance := by
  simp only [State.timeStep, hp]
  rfl

section TimeStep

variable {s : State} {l : Label}

/-- R22, R36: where the advance leaves the range, the label goes and TIME_END is posted with it. -/
theorem State.timeStep_rangeEnd (hp : s.time.pending = none) (hl : s.time.label = some l) (hn : s.nextLabel = none) :
    s.timeStep =
      { state := ({ s.noLoad with time := { s.noLoad.time with label := none } } : State).post (.timeEnd l) none,
        loaded := false, rangeEnd := true } := by
  have passed : advanceInRange s.slots l = none := by simpa [State.nextLabel, hl] using hn
  have next : s.noLoad.nextLabel = none := hn
  have set : s.noLoad.time.label = some l := hl
  rw [State.timeStep_plain hp]
  simp only [State.plainAdvance, State.advanceLabel, set, next, TimeScale.isSet]
  rw [show advanceInRange s.noLoad.slots l = none from passed]
  rfl

/-- R22: the last second of the range has no next label. -/
theorem State.nextLabel_lastSecond (hl : s.time.label = some { minute := lastMinute, second := 59 })
    (hi : committedLeap s.slots .insert lastMinute = false) : s.nextLabel = none := by
  simp [State.nextLabel, hl, advanceInRange, advance, hi]

end TimeStep

/-! ### The keyer with no label -/

theorem State.setMode_mode (s : State) (m : KeyMode) (k : KeyCause) (l : Option Label) :
    (s.setMode m k l).keyer.mode = m :=
  (s.setMode_keysFrom m k l).1

/-- R136, R139: at an epoch that delivers no label the keyer becomes QUIET and schedules nothing. -/
theorem State.keyerEpoch_unset {s : State} {c : EpochCtx} (hc : c.label = none) (hs : s.time.label = none) :
    (s.keyerEpoch c).keyer.mode = .quiet ∧ (s.keyerEpoch c).keyer.schedule = [] := by
  have quiet : (s.testMode none).keyer.mode = .quiet := by
    unfold State.testMode
    split
    · exact s.setMode_mode _ _ _
    · rename_i hcause
      have unset : s.time.isSet = false := by simp [TimeScale.isSet, hs]
      unfold State.quietCause at hcause
      rw [if_pos unset] at hcause
      split at hcause <;> cases hcause
  simp only [State.keyerEpoch, State.keyerOther, hc]
  exact ⟨quiet, rfl⟩

/-- So do the reactions of such an epoch. -/
theorem State.reactions_quiet {c : EpochCtx} (hc : c.label = none) {order : List Reaction} (hk : Reaction.keyer ∈ order)
    {s : State} (hs : s.time.label = none) :
    (order.foldl (State.react c) s).keyer.mode = .quiet ∧ (order.foldl (State.react c) s).keyer.schedule = [] := by
  refine (foldl_reaches (fun t : State => t.time.label = none)
    (fun t => t.time.label = none ∧ t.keyer.mode = .quiet ∧ t.keyer.schedule = []) hk
    (fun t x _ ht => (t.react_label_pending c x).1.trans ht)
    (fun t ht => ⟨(t.react_label_pending c .keyer).1.trans ht, State.keyerEpoch_unset hc ht⟩)
    (fun t x _ ht => ⟨(t.react_label_pending c x).1.trans ht.1, ?_⟩) hs).2
  by_cases hx : x = .keyer
  · subst hx
    exact State.keyerEpoch_unset hc ht.1
  · rw [t.react_keyer c hx]
    exact ht.2

/-! ### The discipline controller at rest -/

/-- R81: FREE or ACQUIRE with every count 0 and every mark of the timers clear. -/
structure Discipline.atRest (d : Discipline) : Prop where
  unlocked : d.unlocked
  elapsed : d.elapsed = 0
  h1Passed : d.h1Passed = false
  firstAwaited : d.firstAwaited = false
  lockRun : d.lockRun = 0
  excursions : d.excursions = 0

theorem Discipline.easedFrom.atRest {d e : Discipline} (h : d.easedFrom e) (he : e.atRest) : d.atRest :=
  ⟨h.unlocked, h.elapsed.elim (fun x => x.trans he.elapsed) id, h.h1Passed.elim (fun x => x.trans he.h1Passed) id,
    h.firstAwaited.elim (fun x => x.trans he.firstAwaited) id, h.lockRun.elim (fun x => x.trans he.lockRun) id,
    h.excursions.elim (fun x => x.trans he.excursions) id⟩

/-- R81: the range end puts the controller to rest, and no reaction behind it, in any order, wakes a count or a mark. -/
theorem State.reactions_atRest {c : EpochCtx} (hc : c.rangeEnd = true) {order : List Reaction}
    (hr : Reaction.rangeEnd ∈ order) (s : State) : (order.foldl (State.react c) s).disc.atRest := by
  refine foldl_reaches (fun _ => True) (fun t : State => t.disc.atRest) hr (fun _ _ _ _ => trivial) (fun t _ => ?_)
    (fun t x _ ht => (State.react_eased c x ht.unlocked).atRest ht) trivial
  simp only [State.react, hc, if_true, State.rangeEndFree_disc]
  exact ⟨Or.inl rfl, rfl, rfl, rfl, rfl, rfl⟩

/-! ### Reviews that change no state -/

/-- R50, R54: the review of this reference at this epoch changes no state. -/
def Reference.quietAt (x : Reference) (c : EpochCtx) : Prop :=
  x.state = .off ∨ x.reviewPending = false ∨ c.stepped = true ∨ (x.move (x.classify c.window)).2 = none

/-- R50: such a review touches the reference's own record alone. -/
theorem State.react_quietReview {c : EpochCtx} {s : State} {r : RefNo} (h : (s.ref r).quietAt c) :
    (s.react c (.review r)).disc = s.disc ∧ (s.react c (.review r)).selector = s.selector ∧
      (s.react c (.review r)).notices = s.notices := by
  simp only [State.react, State.review]
  split
  · exact ⟨rfl, rfl, rfl⟩
  · rename_i hoff
    split
    · exact ⟨rfl, rfl, rfl⟩
    · rename_i hpending
      split
      · exact ⟨rfl, rfl, rfl⟩
      · rename_i hstepped
        have none_moved : ((s.ref r).reviewed c.window c.applied).2 = none :=
          ((h.resolve_left hoff).resolve_left hpending).resolve_left hstepped
        split <;> rename_i hm
        · exact ⟨rfl, rfl, rfl⟩
        · rw [hm] at none_moved
          cases none_moved

/-- A review leaves every other reference. -/
theorem State.ref_review_of_ne (s : State) {r q : RefNo} (st : Bool) (w : Nat) (a : Int) (l : Option Label) (h : q ≠ r) :
    (s.review r st w a l).ref q = s.ref q := by
  unfold State.review
  dsimp only
  split
  · rfl
  · split
    · rw [State.ref_setRef, if_neg h]
    · split
      · rw [State.ref_setRef, if_neg h]
      · split
        · rw [State.ref_setRef, if_neg h]
        · rw [State.ref_changeRef, if_neg h]

/-- The reactions still to come are distinct, and no review among them changes a state. -/
structure State.quietFor (s : State) (c : EpochCtx) (xs : List Reaction) : Prop where
  nodup : xs.Nodup
  quiet : ∀ r, Reaction.review r ∈ xs → (s.ref r).quietAt c

/-- A reaction leaves the references whose review is still to come. -/
theorem State.quietFor.react {s : State} {c : EpochCtx} {x : Reaction} {xs : List Reaction} (h : s.quietFor c (x :: xs)) :
    (s.react c x).quietFor c xs := by
  obtain ⟨hx, hxs⟩ := List.nodup_cons.1 h.nodup
  refine ⟨hxs, fun r hr => ?_⟩
  have same : (s.react c x).ref r = s.ref r := by
    by_cases hrev : ∃ q, x = .review q
    · obtain ⟨q, rfl⟩ := hrev
      exact s.ref_review_of_ne _ _ _ _ (fun e => hx (e ▸ hr))
    · exact State.ref_congr (s.react_refs_selector c (fun q e => hrev ⟨q, e⟩)).1 r
  rw [same]
  exact h.quiet r (List.mem_cons_of_mem _ hr)

/-- So a reaction whose review, if it is one, changes no state leaves the selector. -/
theorem State.quietFor.selector {s : State} {c : EpochCtx} {x : Reaction} {xs : List Reaction}
    (h : s.quietFor c (x :: xs)) : (s.react c x).selector = s.selector := by
  by_cases hrev : ∃ q, x = .review q
  · obtain ⟨q, rfl⟩ := hrev
    exact (State.react_quietReview (h.quiet q List.mem_cons_self)).2.1
  · exact (s.react_refs_selector c (fun q e => hrev ⟨q, e⟩)).2

/-- What each reaction leaves true of the reactions still to come is true of none at the end. -/
theorem foldl_remaining {α β : Type} {f : β → α → β} (M : List α → β → Prop)
    (step : ∀ x xs b, M (x :: xs) b → M xs (f b x)) : ∀ (xs : List α) (b : β), M xs b → M [] (xs.foldl f b)
  | [], _, h => h
  | x :: xs, b, h => foldl_remaining M step xs (f b x) (step x xs b h)

/-! ### In FREE -/

/-- R181: the kinds of notice, DISC_STATE apart, that a reaction to an epoch can post. -/
abbrev kindsButDisc : List NoticeKind :=
  [.refState, .select, .holdoverLimit, .slotState, .recordDiscard, .keyMode, .monVerdict, .changeover]

/-- t stands in FREE as s does, with the same expired flag and selection and the same entries of DISC_STATE, and enters no second. -/
structure State.staysFree (t s : State) : Prop where
  state : t.disc.state = .free
  entry : t.disc.entrySecond = false
  expired : t.disc.expired = s.disc.expired
  selector : t.selector = s.selector
  posts : t.postsOnly s kindsButDisc

theorem State.staysFree.trans {s t u : State} (h : t.staysFree s) (h' : u.staysFree t) : u.staysFree s :=
  ⟨h'.state, h'.entry, h'.expired.trans h.expired, h'.selector.trans h.selector, h.posts.trans h'.posts⟩

/-- R78, R81: in FREE no reaction moves the discipline controller, while no review changes a state. -/
theorem State.quietFor.staysFree {s : State} {c : EpochCtx} {x : Reaction} {xs : List Reaction}
    (h : s.quietFor c (x :: xs)) (hs : s.disc.state = .free) (he : s.disc.entrySecond = false) :
    (s.react c x).staysFree s := by
  have kept : ∀ t : State, t.disc = s.disc → t.selector = s.selector → t.postsOnly s kindsButDisc → t.staysFree s :=
    fun t hd hsel hp => ⟨by rw [hd, hs], by rw [hd, he], by rw [hd], hsel, hp⟩
  have hsel := h.selector
  cases x with
  | review r =>
    obtain ⟨hd, -, hn⟩ := State.react_quietReview (h.quiet r List.mem_cons_self)
    exact kept _ hd hsel (State.postsOnly_of_eq hn)
  | settings =>
    have hd : (s.react c .settings).disc = _ := s.discSettingsInForce_disc
    exact ⟨by rw [hd]; exact hs, by rw [hd]; exact he, by rw [hd], hsel, (s.react_postsOnly c _).mono (by simp [Reaction.kinds])⟩
  | holdover =>
    have same : s.react c .holdover = s := State.holdoverTick_of_ne _ _ (by simp [hs])
    rw [same]
    exact kept s rfl rfl (State.postsOnly_of_eq rfl)
  | rangeEnd =>
    simp only [State.react]
    split
    · have hd := s.rangeEndFree_disc c.label
      refine ⟨by rw [hd], by rw [hd], by rw [hd], by simp, State.postsOnly_of_eq ?_⟩
      simp [State.rangeEndFree, hs]
    · exact kept s rfl rfl (State.postsOnly_of_eq rfl)
  | _ =>
    exact kept _ (s.react_disc c (by simp) (by simp) (by simp) (by simp)) hsel
      ((s.react_postsOnly c _).mono (by simp [Reaction.kinds]))

/-! ### Before and after the range end -/

/-- t is what the reactions so far have left of s while neither the range end nor the expiry has been taken; xs are still to come. -/
structure State.awaitsEnd (t s : State) (xs : List Reaction) : Prop where
  state : t.disc.state = s.disc.state
  entry : t.disc.entrySecond = false
  expired : t.disc.expired = s.disc.expired
  selector : t.selector = s.selector
  mask : t.notices.mask = s.notices.mask
  settings : t.nextSettings = s.nextSettings
  staged : Reaction.settings ∉ xs → t.disc.staged = none
  elapsed : Reaction.holdover ∈ xs → t.disc.elapsed = s.disc.elapsed

/-- t stands in FREE and lists why: the range end, or the expiry where the count reaches H2 at the same epoch. -/
structure State.ended (t s : State) : Prop where
  state : t.disc.state = .free
  entry : t.disc.entrySecond = false
  selector : t.selector = s.selector
  listed :
    (t.disc.expired = s.disc.expired ∧
      (NoticeKind.discState ∉ s.notices.mask →
        t.lists (.discState s.disc.state .free s.selector.selected .rangeEnd) none)) ∨
    (s.disc.state = .holdover ∧ s.nextSettings.h2 ≤ s.disc.elapsed + 1 ∧
      (NoticeKind.discState ∉ s.notices.mask →
        t.lists (.discState .holdover .free s.selector.selected .expired) none))

/-- What stays in FREE stays ended. -/
theorem State.staysFree.ended {s t u : State} (h : u.staysFree t) (ht : t.ended s) : u.ended s := by
  refine ⟨h.state, h.entry, h.selector.trans ht.selector, ht.listed.imp ?_ ?_⟩
  · rintro ⟨he, hl⟩
    exact ⟨h.expired.trans he, fun hm => h.posts.lists (by simp [NoticeData.kind]) (hl hm)⟩
  · rintro ⟨hs, h2, hl⟩
    exact ⟨hs, h2, fun hm => h.posts.lists (by simp [NoticeData.kind]) (hl hm)⟩

section Run

variable {s t : State} {c : EpochCtx} {x : Reaction} {xs : List Reaction}

/-- R81, R83: the range end taken first ends with its own cause. -/
theorem State.awaitsEnd.rangeEnd (h : t.awaitsEnd s xs) (hs : s.disc.state ≠ .free) : (t.rangeEndFree none).ended s := by
  have hd := t.rangeEndFree_disc none
  refine ⟨by rw [hd], by rw [hd], by simp [h.selector], Or.inl ⟨by rw [hd]; exact h.expired, fun hm => ?_⟩⟩
  have posted : t.rangeEndFree none =
      (({ t with disc := (t.rangeEndFree none).disc } : State).post
        (.discState s.disc.state .free s.selector.selected .rangeEnd) none) := by
    rw [hd]
    simp only [State.rangeEndFree, State.setDisc, h.state, h.selector, if_neg hs]
  rw [posted]
  exact State.lists_post _ (by simpa [h.mask, NoticeData.kind] using hm)

/-- R78: the check of H1 can only set its mark and post its limit. -/
theorem State.checkH1_disc (s : State) (l : Option Label) :
    ∃ b, (s.checkH1 l).disc = { s.disc with h1Passed := b } := by
  unfold State.checkH1
  split
  · exact ⟨true, rfl⟩
  · exact ⟨s.disc.h1Passed, rfl⟩

theorem State.checkH1_mask (s : State) (l : Option Label) : (s.checkH1 l).notices.mask = s.notices.mask := by
  unfold State.checkH1
  split <;> simp

/-- R79, R83: a count that has reached H2 expires. -/
theorem State.checkH2_reached {s : State} (l : Option Label) (h : s.disc.settings.h2 ≤ s.disc.elapsed) :
    (s.checkH2 l).disc = { s.disc with state := .free, expired := true, elapsed := 0, h1Passed := false } ∧
      (NoticeKind.discState ∉ s.notices.mask →
        (s.checkH2 l).lists (.discState s.disc.state .free s.selector.selected .expired) l) := by
  unfold State.checkH2
  rw [if_pos h]
  refine ⟨rfl, fun hm => ?_⟩
  exact (State.postsOnly_post (ks := [.holdoverLimit]) rfl (by simp [NoticeData.kind]) l).lists
    (by simp [NoticeData.kind]) (State.lists_post l hm)

/-- R78, R79: the timers raise the count of a HOLDOVER that stood before, and expire it where the count reaches H2. -/
theorem State.awaitsEnd.holdover (h : t.awaitsEnd s (.holdover :: xs)) (hx : Reaction.holdover ∉ xs)
    (hset : Reaction.settings ∉ xs) (hs : s.disc.state = .holdover) :
    (t.holdoverTick false none).awaitsEnd s xs ∨ (t.holdoverTick false none).ended s := by
  have stood : t.disc.state = .holdover := h.state.trans hs
  have unstaged : t.disc.staged = none := h.staged (by simpa using hset)
  have inForce : t.disc.settings = s.nextSettings := by
    rw [← h.settings, State.nextSettings, unstaged, Option.getD_none]
  have count : t.disc.elapsed = s.disc.elapsed := h.elapsed List.mem_cons_self
  have tick : t.holdoverTick false none =
      ((({ t with disc := { t.disc with elapsed := t.disc.elapsed + 1 } } : State).checkH1 none).checkH2 none) :=
    if_pos ⟨stood, rfl⟩
  generalize hu : ({ t with disc := { t.disc with elapsed := t.disc.elapsed + 1 } } : State).checkH1 none = u at tick
  obtain ⟨b, disc⟩ := State.checkH1_disc ({ t with disc := { t.disc with elapsed := t.disc.elapsed + 1 } } : State) none
  have mask := State.checkH1_mask ({ t with disc := { t.disc with elapsed := t.disc.elapsed + 1 } } : State) none
  have selector : u.selector = t.selector := by rw [← hu]; simp
  rw [hu] at disc mask
  rw [tick]
  by_cases h2 : s.nextSettings.h2 ≤ s.disc.elapsed + 1
  · right
    obtain ⟨after, listed⟩ := State.checkH2_reached (s := u) none (by rw [disc]; simpa only [inForce, count] using h2)
    refine ⟨by rw [after], by rw [after, disc]; exact h.entry, by simp [selector, h.selector],
      Or.inr ⟨hs, h2, fun hm => ?_⟩⟩
    have := listed (by rw [mask]; rwa [h.mask])
    rwa [disc, selector, h.selector, show ({ t.disc with elapsed := t.disc.elapsed + 1, h1Passed := b } : Discipline).state =
      .holdover from stood] at this
  · left
    have below : u.checkH2 none = u := if_neg (by rw [disc]; simpa only [inForce, count] using h2)
    rw [below]
    exact ⟨by rw [disc]; exact h.state, by rw [disc]; exact h.entry, by rw [disc]; exact h.expired,
      selector.trans h.selector, mask.trans h.mask, by rw [State.nextSettings, disc]; exact h.settings,
      fun _ => by rw [disc]; exact unstaged, fun hmem => absurd hmem hx⟩

/-- One reaction from a state that awaits the range end: it still awaits it, or has ended; the range end itself ends it. -/
theorem State.awaitsEnd.react (h : t.awaitsEnd s (x :: xs)) (hq : t.quietFor c (x :: xs)) (hlabel : c.label = none)
    (hend : c.rangeEnd = true) (hold : c.wasHoldover = decide (s.disc.state = .holdover)) (hs : s.disc.state ≠ .free)
    (hset : x = .holdover → Reaction.settings ∉ xs) :
    (x ≠ .rangeEnd ∧ (t.react c x).awaitsEnd s xs) ∨ (t.react c x).ended s := by
  obtain ⟨hx, -⟩ := List.nodup_cons.1 hq.nodup
  have mask : (t.react c x).notices.mask = s.notices.mask := (t.react_postsOnly c x).1.trans h.mask
  have kept : (t.react c x).disc = t.disc → x ≠ .settings → (t.react c x).awaitsEnd s xs := fun hd hne =>
    ⟨by rw [hd]; exact h.state, by rw [hd]; exact h.entry, by rw [hd]; exact h.expired, hq.selector.trans h.selector,
      mask, by rw [State.nextSettings, hd]; exact h.settings,
      fun hm => by rw [hd]; exact h.staged (by simp [hm, hne.symm]),
      fun hm => by rw [hd]; exact h.elapsed (List.mem_cons_of_mem _ hm)⟩
  cases x with
  | rangeEnd =>
    right
    simp only [State.react, hend, hlabel, if_true]
    exact h.rangeEnd hs
  | review r =>
    exact Or.inl ⟨by simp, kept (State.react_quietReview (hq.quiet r List.mem_cons_self)).1 (by simp)⟩
  | settings =>
    have hd : (t.react c .settings).disc = _ := t.discSettingsInForce_disc
    refine Or.inl ⟨by simp, ⟨by rw [hd]; exact h.state, by rw [hd]; exact h.entry, by rw [hd]; exact h.expired,
      hq.selector.trans h.selector, mask, ?_, fun _ => by rw [hd],
      fun hm => by rw [hd]; exact h.elapsed (List.mem_cons_of_mem _ hm)⟩⟩
    rw [State.nextSettings, hd]
    exact h.settings
  | holdover =>
    by_cases hh : s.disc.state = .holdover
    · have tick : t.react c .holdover = t.holdoverTick false none := by simp [State.react, hlabel, hold, hh]
      rw [tick]
      exact (h.holdover hx (hset rfl) hh).imp (fun ha => ⟨by simp, ha⟩) id
    · have same : t.react c .holdover = t := State.holdoverTick_of_ne _ _ (by rwa [h.state])
      exact Or.inl ⟨by simp, kept (by rw [same]) (by simp)⟩
  | _ =>
    exact Or.inl ⟨by simp, kept (t.react_disc c (by simp) (by simp) (by simp) (by simp)) (by simp)⟩

/-- R81, R83: from TRACK, ACQUIRE and HOLDOVER the reactions of the range end, in every order that takes the settings before the holdover timers, lead to FREE and list why. -/
theorem State.reactions_ended {order : List Reaction} (h : t.awaitsEnd s order) (hq : t.quietFor c order)
    (hlabel : c.label = none) (hend : c.rangeEnd = true) (hold : c.wasHoldover = decide (s.disc.state = .holdover))
    (hs : s.disc.state ≠ .free) (hset : ∀ a b, order = a ++ .holdover :: b → Reaction.settings ∉ b)
    (hr : Reaction.rangeEnd ∈ order) : (order.foldl (State.react c) t).ended s := by
  have run := foldl_remaining (f := State.react c)
    (fun xs t => t.quietFor c xs ∧ (∀ a b, xs = a ++ .holdover :: b → Reaction.settings ∉ b) ∧
      ((Reaction.rangeEnd ∈ xs ∧ t.awaitsEnd s xs) ∨ t.ended s))
    (fun x xs t ⟨hq, hset, ht⟩ => ⟨hq.react, fun a b e => hset (x :: a) b (by rw [e]; rfl), ?_⟩)
    order t ⟨hq, hset, Or.inl ⟨hr, h⟩⟩
  · exact run.2.2.resolve_left (fun h => by simp at h)
  · rcases ht with ⟨hmem, ht⟩ | ht
    · refine (ht.react hq hlabel hend hold hs (fun e => hset [] xs (by rw [e]; rfl))).imp (fun ⟨hne, ha⟩ => ⟨?_, ha⟩) id
      exact (List.mem_cons.1 hmem).resolve_left hne.symm
    · exact Or.inr ((hq.staysFree ht.state ht.entry).ended ht)

end Run

/-! ### The epoch at the end of the range -/

/-- In a list without repetitions, what stands before y does not stand behind it. -/
theorem notMem_behind {α : Type} {x y : α} {a b : List α} (hn : (a ++ y :: b).Nodup)
    (h : [x, y].Sublist (a ++ y :: b)) : x ∉ b := by
  intro hb
  obtain ⟨hna, hnb, hdis⟩ := List.nodup_append.1 hn
  obtain ⟨l₁, l₂, e, h₁, h₂⟩ := List.sublist_append_iff.1 h
  rcases l₁ with _ | ⟨u, l₁⟩
  · obtain rfl : [x, y] = l₂ := by simpa using e
    have hy : y ∉ b := (List.nodup_cons.1 hnb).1
    rcases List.sublist_cons_iff.1 h₂ with h₂ | ⟨r, hr, h₂⟩
    · exact hy (h₂.subset (by simp))
    · obtain ⟨rfl, rfl⟩ := List.cons.inj hr
      exact hy hb
  · obtain ⟨rfl, -⟩ := List.cons.inj e
    exact hdis x (h₁.subset (by simp)) x (List.mem_cons_of_mem _ hb) rfl

section Epoch

variable {s : State}

/-- R85: in the order of an epoch the settings never stand behind the holdover timers. -/
theorem State.nextOrder_settings_first (s : State) (a b : List Reaction) (h : s.nextOrder = a ++ .holdover :: b) :
    Reaction.settings ∉ b := by
  have first : [Reaction.settings, .holdover].Sublist s.nextOrder :=
    List.Sublist.trans (by simp) (reactionOrder_first _ _ (x := .holdover) (by simp))
  have nodup := s.nextOrder_nodup
  rw [h] at first nodup
  exact notMem_behind nodup first

/-- R22: what the reactions of the range end begin with. -/
theorem State.atEpoch_rangeEnd {l : Label} (hl : s.time.label = some l) (hp : s.time.pending = none)
    (hn : s.nextLabel = none) :
    s.nextCtx.label = none ∧ s.nextCtx.rangeEnd = true ∧ s.atEpoch.timeStep.state.disc = s.atEpoch.disc ∧
      s.atEpoch.timeStep.state.refs = s.refs ∧ s.atEpoch.timeStep.state.selector = s.selector ∧
      s.atEpoch.timeStep.state.notices = s.notices.post (.timeEnd l) none := by
  have step := State.timeStep_rangeEnd (s := s.atEpoch) (l := l) (by simpa using hp) (by simpa using hl)
    (by rwa [State.atEpoch_nextLabel])
  rw [State.nextCtx_label, State.nextCtx_rangeEnd, step]
  simp [State.noLoad]

/-- R22, R36, R81, R136: what the epoch of the range end does in every order of its reactions. -/
theorem State.nextEpoch_rangeEnd {l : Label} (h : s.resetHeld = false) (hl : s.time.label = some l)
    (hp : s.time.pending = none) (hn : s.nextLabel = none) :
    s.nextEpoch.time.label = none ∧ (s.nextEpoch.keyer.mode = .quiet ∧ s.nextEpoch.keyer.schedule = []) ∧
      (NoticeKind.timeEnd ∉ s.notices.mask → s.nextEpoch.lists (.timeEnd l) none) ∧ s.nextEpoch.disc.atRest := by
  obtain ⟨label, rangeEnd, -, -, -, notices⟩ := State.atEpoch_rangeEnd hl hp hn
  obtain ⟨delivered, -, -, posts⟩ := State.nextEpoch_of_timeStep h
  have listed : NoticeKind.timeEnd ∉ s.notices.mask → s.atEpoch.timeStep.state.lists (.timeEnd l) none := by
    intro hm
    obtain ⟨e, he, hd, hlab⟩ := State.lists_post (s := s) (d := .timeEnd l) none hm
    exact ⟨e, by rw [notices]; exact he, hd, hlab⟩
  refine ⟨delivered.trans label, ?_, fun hm => posts.lists (by simp [NoticeData.kind]) (listed hm), ?_⟩
  · rw [State.nextEpoch_eq h]
    exact State.reactions_quiet label (s.mem_nextOrder _) label
  · rw [State.nextEpoch_eq h]
    exact State.reactions_atRest rangeEnd (s.mem_nextOrder _) _

/-- R50: where no review changes a state, none does among the reactions of the next epoch. -/
theorem State.nextOrder_quiet (h : s.reviewsChangeNone) {u : State} (hu : u.refs = s.refs) :
    u.quietFor s.nextCtx s.nextOrder := by
  refine ⟨s.nextOrder_nodup, fun r _ => ?_⟩
  obtain ⟨stepped, window, -⟩ := s.nextCtx_ended
  rw [State.ref_congr hu, Reference.quietAt, stepped, window]
  exact h r

/-- R81, R83: where no review changes a state, FREE goes on and lists no DISC_STATE. -/
theorem State.nextEpoch_rangeEnd_free {l : Label} (h : s.resetHeld = false) (hl : s.time.label = some l)
    (hp : s.time.pending = none) (hn : s.nextLabel = none) (hq : s.reviewsChangeNone) (hs : s.disc.state = .free) :
    s.nextEpoch.staysFree s.atEpoch.timeStep.state := by
  obtain ⟨-, -, disc, refs, -, -⟩ := State.atEpoch_rangeEnd hl hp hn
  have start : s.atEpoch.timeStep.state.staysFree s.atEpoch.timeStep.state := by
    refine ⟨?_, ?_, rfl, rfl, State.postsOnly_of_eq rfl⟩ <;> simp [disc, State.atEpoch_disc, hs]
  rw [State.nextEpoch_eq h]
  exact (foldl_remaining (fun xs (t : State) => t.quietFor s.nextCtx xs ∧ t.staysFree s.atEpoch.timeStep.state)
    (fun x xs t ⟨ht, hfree⟩ => ⟨ht.react, hfree.trans (ht.staysFree hfree.state hfree.entry)⟩)
    s.nextOrder _ ⟨State.nextOrder_quiet hq refs, start⟩).2

/-- R81, R83: from any other state it is left for FREE, and DISC_STATE lists why. -/
theorem State.nextEpoch_rangeEnd_ended {l : Label} (h : s.resetHeld = false) (hl : s.time.label = some l)
    (hp : s.time.pending = none) (hn : s.nextLabel = none) (hq : s.reviewsChangeNone) (hs : s.disc.state ≠ .free) :
    s.nextEpoch.ended s := by
  obtain ⟨label, rangeEnd, disc, refs, selector, notices⟩ := State.atEpoch_rangeEnd hl hp hn
  have start : s.atEpoch.timeStep.state.awaitsEnd s s.nextOrder := by
    refine ⟨?_, ?_, ?_, selector, by simp [notices], ?_, fun hm => absurd (s.mem_nextOrder _) hm, fun _ => ?_⟩ <;>
      simp [State.nextSettings, disc, State.atEpoch_disc]
  rw [State.nextEpoch_eq h]
  exact State.reactions_ended start (State.nextOrder_quiet hq refs) label rangeEnd s.nextCtx_ended.2.2 hs
    s.nextOrder_settings_first (s.mem_nextOrder _)

end Epoch

/-- Settles O35: the time step of the last second loses the label; the keyer finds the time UNSET, and the range end puts the discipline controller to rest in whatever order the blocks react. -/
theorem timeEndsWithItsRange : Obligations.TimeEndsWithItsRange := by
  intro s h hl hp hi
  have hn : s.nextLabel = none := State.nextLabel_lastSecond hl hi
  have due : s.rangeEndDue = true := by rw [State.rangeEndDue, State.timeStep_rangeEnd hp hl hn]
  obtain ⟨-, -, disc, -, selector, notices⟩ := State.atEpoch_rangeEnd hl hp hn
  obtain ⟨label, ⟨mode, schedule⟩, timeEnd, rest⟩ := State.nextEpoch_rangeEnd h hl hp hn
  have expired : s.atEpoch.timeStep.state.disc.expired = s.disc.expired := by simp [disc, State.atEpoch_disc]
  refine ⟨s.nextEpoch, congrArg Host.Outcome.next (if_pos due), label, mode, schedule, timeEnd, rest.unlocked,
    rest.elapsed, rest.h1Passed, rest.excursions, rest.lockRun, rest.firstAwaited, fun hq => ?_⟩
  by_cases hs : s.disc.state = .free
  · have free := State.nextEpoch_rangeEnd_free h hl hp hn hq hs
    refine ⟨free.state, free.entry, free.selector.trans selector, fun _ => ⟨free.expired.trans expired, fun x hx => ?_⟩,
      ?_, fun hh => ?_⟩
    · rw [free.posts.2 x (by simp [hx]), notices]
      exact NoticeList.mem_post_of_ne (by rw [hx]; simp [NoticeData.kind])
    · rintro (hh | hh | ⟨hh, -⟩) <;> simp [hs] at hh
    · simp [hs] at hh
  · have ended := State.nextEpoch_rangeEnd_ended h hl hp hn hq hs
    refine ⟨ended.state, ended.entry, ended.selector, fun hh => absurd hh hs, fun hh => ?_,
      fun hh h2 hm => ?_⟩
    · refine ended.listed.resolve_right (fun ⟨hold, reached, _⟩ => ?_)
      rcases hh with hh | hh | ⟨-, below⟩
      · rw [hh] at hold; cases hold
      · rw [hh] at hold; cases hold
      · omega
    · rcases ended.listed with ⟨-, hlist⟩ | ⟨-, -, hlist⟩
      · left
        rw [← hh]
        exact hlist hm
      · exact Or.inr (hlist hm)

end Sys2Proof.Machine
end

section
/-! Proofs: the word receiver (O37): what each character does to the word under assembly, and how the characters of a word read back. -/

namespace Sys2Proof.Machine

/-! ### One character -/

section Character

variable {x : Reference} {ch : RxChar} {w : Text}

/-- R44: while no word is under assembly, a '#' without a framing error begins one and nothing else does anything. -/
theorem Reference.takeChar_idle (h : x.assembly = none) :
    x.takeChar ch = if ch.code = '#' ∧ ch.framingError = false then { x with assembly := some [] } else x := by
  simp only [Reference.takeChar, h]

/-- R44: a framing error fails the word, whatever the character (log 24). -/
theorem Reference.takeChar_framingError (h : x.assembly = some w) (he : ch.framingError = true) :
    x.takeChar ch = x.endWord none := by
  simp [Reference.takeChar, h, he]

/-- R44: '#' fails the word and begins another. -/
theorem Reference.takeChar_hash (h : x.assembly = some w) (he : ch.framingError = false) (hc : ch.code = '#') :
    x.takeChar ch = { x.endWord none with assembly := some [] } := by
  simp [Reference.takeChar, h, he, hc]

/-- R44: a carriage return completes a word of fifteen characters and fails any other. -/
theorem Reference.takeChar_return (h : x.assembly = some w) (he : ch.framingError = false) (hc : ch.code = '\r') :
    x.takeChar ch = x.endWord (if w.length = 15 then some w else none) := by
  simp [Reference.takeChar, h, he, hc, apply_ite x.endWord]

/-- R44: any other character is added to the word, or fails one that already has fifteen. -/
theorem Reference.takeChar_other (h : x.assembly = some w) (he : ch.framingError = false) (hh : ch.code ≠ '#')
    (hr : ch.code ≠ '\r') :
    x.takeChar ch = if w.length < 15 then { x with assembly := some (w ++ [ch.code]) } else x.endWord none := by
  simp [Reference.takeChar, h, he, hh, hr]

/-- R44, R45: of a reference, a character touches the assembly and the held word alone. -/
theorem Reference.takeChar_frame (x : Reference) (ch : RxChar) :
    x.takeChar ch = { x with assembly := (x.takeChar ch).assembly, held := (x.takeChar ch).held } := by
  unfold Reference.takeChar
  repeat' split
  all_goals rfl

end Character

/-! ### The word line of a reference -/

/-- R44, R187: words are taken while reset is not asserted and the reference is not OFF. -/
theorem State.takesWords_iff {s : State} {r : RefNo} :
    s.takesWords r = true ↔ s.resetHeld = false ∧ (s.ref r).state ≠ .off := by
  simp [State.takesWords]

/-- R44: an OFF reference ignores its word line. -/
theorem State.receiveWordChar_off {s : State} {r : RefNo} (ch : RxChar) (h : (s.ref r).state = .off) :
    s.receiveWordChar r ch = s :=
  if_neg (fun ht => (State.takesWords_iff.1 ht).2 h)

/-- R44: an enabled one takes the character. -/
theorem State.receiveWordChar_on {s : State} {r : RefNo} (ch : RxChar) (hr : s.resetHeld = false)
    (h : (s.ref r).state ≠ .off) : s.receiveWordChar r ch = s.setRef r ((s.ref r).takeChar ch) :=
  if_pos (State.takesWords_iff.2 ⟨hr, h⟩)

/-- R45: the end of an assembly reaches an enabled reference. -/
theorem execWordCompletion_on {s : State} {r : RefNo} (word : Option Text) (hr : s.resetHeld = false)
    (h : (s.ref r).state ≠ .off) :
    exec (.wordCompletion r word) s = .next (s.setRef r ((s.ref r).endWord word)) :=
  congrArg Host.Outcome.next (if_pos (State.takesWords_iff.2 ⟨hr, h⟩))

/-! ### The characters of a word -/

theorem readLeapMark_leapMarkChar (m : LeapMark) : readLeapMark (leapMarkChar m) = some m := by
  cases m <;> rfl

/-- R45: the fifteen characters of a word. -/
def TimeWord.text (w : TimeWord) : Text := dateText w.date ++ timeText w.hour w.minute w.second ++ [leapMarkChar w.leap]

/-- R45: a valid word's characters read back as it. -/
theorem readWord_text {w : TimeWord} (hd : w.date.valid = true) (hh : w.hour ≤ 23) (hm : w.minute ≤ 59)
    (hs : w.second ≤ 60) : readWord w.text = some w := by
  have time_length : (timeText w.hour w.minute w.second).length = 6 := by simp [timeText]
  have date : w.text.take 8 = dateText w.date := by
    rw [TimeWord.text, List.append_assoc, List.take_left' (dateText_length w.date)]
  have behind : w.text.drop 8 = timeText w.hour w.minute w.second ++ [leapMarkChar w.leap] := by
    rw [TimeWord.text, List.append_assoc, List.drop_left' (dateText_length w.date)]
  have mark : w.text.drop 14 = [leapMarkChar w.leap] :=
    List.drop_left' (by rw [List.length_append, dateText_length, time_length])
  have number := readFixed_timeText (h := w.hour) (m := w.minute) (sec := w.second) (by omega) (by omega) (by omega)
  have hour : (w.hour * 10000 + w.minute * 100 + w.second) / 10000 = w.hour := by omega
  have minute : (w.hour * 10000 + w.minute * 100 + w.second) / 100 % 100 = w.minute := by omega
  have second : (w.hour * 10000 + w.minute * 100 + w.second) % 100 = w.second := by omega
  simp [readWord, date, behind, mark, List.take_left' time_length, readDate_valid hd, number,
    readLeapMark_leapMarkChar, hour, minute, second, hd, hh, hm, hs]

/-- Settles O37: the receiver's state and the character select one equation of the receiver; a word's characters read back as the word. -/
theorem wordReceiverTakesCharacters : Obligations.WordReceiverTakesCharacters := by
  refine ⟨fun s r c e hr => ⟨fun hoff => ?_, fun hon => ?_⟩, fun s r hr hon => ⟨fun w hd hh hm hs => ?_, ?_⟩⟩
  · exact congrArg Host.Outcome.next (State.receiveWordChar_off _ hoff)
  · generalize hx : s.ref r = x at hon ⊢
    have taken : exec (.wordCharacterReceived r { code := c, framingError := e }) s =
        .next (s.setRef r (x.takeChar { code := c, framingError := e })) := by
      rw [← hx] at hon ⊢
      exact congrArg Host.Outcome.next (State.receiveWordChar_on _ hr hon)
    refine ⟨_, taken, ?_⟩
    rw [State.ref_setRef, if_pos rfl]
    refine ⟨congrArg (s.setRef r) (Reference.takeChar_frame x _), fun hidle => ?_, fun w hw => ⟨?_, ?_, ?_, ?_, ?_, ?_⟩⟩
    · rw [Reference.takeChar_idle hidle]
      refine ⟨?_, fun hc he => by rw [if_pos ⟨hc, he⟩], fun hce => ?_⟩
      · split <;> rfl
      · rw [if_neg]
        · exact hidle
        · rintro ⟨hc, he⟩
          simp_all
    · intro he
      rw [Reference.takeChar_framingError hw he]
      exact ⟨rfl, rfl⟩
    · intro he hc
      rw [Reference.takeChar_hash hw he hc]
      exact ⟨rfl, rfl⟩
    · intro he hc hlen
      rw [Reference.takeChar_return hw he hc, if_pos hlen]
      exact ⟨rfl, rfl⟩
    · intro he hc hlen
      rw [Reference.takeChar_return hw he hc, if_neg hlen]
      exact ⟨rfl, rfl⟩
    · intro he hh hc hlen
      rw [Reference.takeChar_other hw he hh hc, if_pos hlen]
      exact ⟨rfl, rfl⟩
    · intro he hh hc hlen
      rw [Reference.takeChar_other hw he hh hc, if_neg (by omega)]
      exact ⟨rfl, rfl⟩
  · have text : w.text = dateText w.date ++ fixed 2 w.hour ++ fixed 2 w.minute ++ fixed 2 w.second ++
        [leapMarkChar w.leap] := by
      simp only [TimeWord.text, timeText, List.append_assoc]
    rw [← text, execWordCompletion_on _ hr hon, Reference.endWord, Option.bind_some, readWord_text hd hh hm hs]
  · rw [execWordCompletion_on _ hr hon]
    rfl

end Sys2Proof.Machine
end

section
/-! Proofs: the review of a second (O39, O40): the class of a second, how it moves a reference, and what an epoch leaves of each reference in every order of its reactions. -/

namespace Sys2Proof.Machine

/-! ### The class of a second -/

section Class

variable {x : Reference} {w : Nat}

/-- R51: what the causes that come before the jitter leave to it. -/
theorem Reference.classify_clean (hx : x.obs.excursion = false) (he : x.obs.edges = 1)
    (hm : x.obs.wordMissing = false) (hd : x.obs.disagreed = false) :
    x.classify w = if x.jitters w then .faulty .jitter else .good := by
  simp [Reference.classify, hx, he, hm, hd]

/-- R51: an offset jitters where it differs from the jitter base by more than W. -/
theorem Reference.jitters_of_base {b e : Int} (hb : x.jitterBase = some b) (ho : x.obs.offset = some e) :
    x.jitters w = true ↔ w < (e - b).natAbs := by
  simp [Reference.jitters, hb, ho]

/-- R51: without a jitter base nothing jitters. -/
theorem Reference.jitters_of_none (hb : x.jitterBase = none) : x.jitters w = false := by
  simp [Reference.jitters, hb]

end Class

/-- Settles O39: the table of R51 row by row. -/
theorem secondIsClassed : Obligations.SecondIsClassed := by
  intro x w
  refine ⟨fun h => if_pos h, fun h => ⟨fun hx => ?_, fun hx hn => ?_, fun hx he => ⟨fun hm => ?_, fun hm hd => ?_,
    fun hm hd => ⟨fun b e hb ho => ⟨fun hlt => ?_, fun hle => ?_⟩, fun hb => ?_⟩⟩⟩, fun _ => rfl⟩
  · simp [Reference.classify, h, hx]
  · simp [Reference.classify, h, hx, hn]
  · simp [Reference.classify, hx, he, hm]
  · simp [Reference.classify, hx, he, hm, hd]
  · rw [Reference.classify_clean hx he hm hd, if_pos ((Reference.jitters_of_base hb ho).2 hlt)]
  · rw [Reference.classify_clean hx he hm hd, if_neg]
    rw [Reference.jitters_of_base hb ho]
    omega
  · rw [Reference.classify_clean hx he hm hd, Reference.jitters_of_none hb]
    rfl

/-! ### How a class moves a reference -/

section Move

variable {x : Reference} {cls : Review}

/-- R54: the loss check comes first. -/
theorem Reference.move_lost (hs : x.state.canLose = true) (h : x.lossMode.limit ≤ x.missCount) :
    x.move cls = x.lose :=
  if_pos ⟨hs, h⟩

/-- R54: below the limit the class decides. -/
theorem Reference.move_below (h : x.missCount < x.lossMode.limit) : x.move cls = x.moveBy cls :=
  if_neg (fun hl => Nat.not_le_of_lt h hl.2)

/-- R53: the loss check passes over a LOST reference. -/
theorem Reference.move_of_lost (h : x.state = .lost) : x.move cls = x.moveBy cls :=
  if_neg (by simp [h, RefState.canLose])

theorem RefState.canLose_iff {st : RefState} :
    st.canLose = true ↔ st = .qualifying ∨ st = .good ∨ st = .rejected := by
  cases st <;> simp [RefState.canLose]

/-- R54: a MISSED second counts as a miss in each of the three states that can be lost. -/
theorem Reference.moveBy_missed (h : x.state.canLose = true) : x.moveBy .missed = x.miss := by
  rcases RefState.canLose_iff.1 h with h | h | h <;> simp only [Reference.moveBy, h]

end Move

/-! ### What an epoch leaves of a reference -/

/-- R50 to R54: a reference after the epoch that ends a second, stepped or not. -/
def Reference.afterEpoch (x : Reference) (stepped : Bool) (w : Nat) (applied : Int) : Reference :=
  if x.state = .off then x
  else if x.reviewPending = false then x.firstEpoch
  else if stepped then x.skip
  else (x.reviewed w applied).1

/-- A review leaves that of its reference. -/
theorem State.ref_review_self (s : State) (r : RefNo) (st : Bool) (w : Nat) (a : Int) (l : Option Label) :
    (s.review r st w a l).ref r = (s.ref r).afterEpoch st w a := by
  unfold State.review Reference.afterEpoch
  dsimp only
  split
  · rfl
  · split
    · rw [State.ref_setRef, if_pos rfl]
    · split
      · rw [State.ref_setRef, if_pos rfl]
      · split <;> rename_i hm
        · rw [State.ref_setRef, if_pos rfl, hm]
        · rw [State.ref_changeRef, if_pos rfl, hm]

/-- Every other reaction to an epoch leaves the reference. -/
theorem State.ref_react_of_ne (c : EpochCtx) (s : State) {x : Reaction} {r : RefNo} (h : x ≠ .review r) :
    (s.react c x).ref r = s.ref r := by
  by_cases hrev : ∃ q, x = .review q
  · obtain ⟨q, rfl⟩ := hrev
    exact s.ref_review_of_ne _ _ _ _ (fun e => h (e ▸ rfl))
  · exact State.ref_congr (s.react_refs_selector c (fun q e => hrev ⟨q, e⟩)).1 r

/-- R50: so reactions that review a reference once, in whatever order, leave what that review does. -/
theorem State.ref_reactions (c : EpochCtx) {order : List Reaction} (hn : order.Nodup) {r : RefNo}
    (hr : Reaction.review r ∈ order) (s : State) :
    (order.foldl (State.react c) s).ref r = (s.ref r).afterEpoch c.stepped c.window c.applied := by
  have run := foldl_remaining (f := State.react c)
    (fun xs t => xs.Nodup ∧ ((Reaction.review r ∈ xs ∧ t.ref r = s.ref r) ∨
      (Reaction.review r ∉ xs ∧ t.ref r = (s.ref r).afterEpoch c.stepped c.window c.applied)))
    (fun x xs t ⟨hn, ht⟩ => ?_) order s ⟨hn, Or.inl ⟨hr, rfl⟩⟩
  · exact (run.2.resolve_left (fun h => by simp at h)).2
  · obtain ⟨hx, hxs⟩ := List.nodup_cons.1 hn
    refine ⟨hxs, ?_⟩
    by_cases hrev : x = .review r
    · subst hrev
      have waiting := (ht.resolve_right (fun h => h.1 List.mem_cons_self)).2
      exact Or.inr ⟨hx, (t.ref_review_self r _ _ _ _).trans (by rw [waiting])⟩
    · rw [t.ref_react_of_ne c hrev]
      simpa [Ne.symm hrev] using ht

/-- R144: on its way to a phase count the shaper leaves the running length. -/
theorem State.passSegments_length (t fuel : Nat) (s : State) :
    (State.passSegments t fuel s).counter.length = s.counter.length := by
  have point : ∀ u : State, u.segmentPoint.counter.length = u.counter.length := by
    intro u
    unfold State.segmentPoint
    split <;> simp [State.enterPhase]
  induction fuel generalizing s with
  | zero => rfl
  | succ fuel ih =>
    unfold State.passSegments
    split
    · rfl
    · split
      · exact (ih _).trans (point s)
      · rfl

/-- R52: the correction applied to the ended second is what its length differs by from the nominal one. -/
theorem State.nextCtx_applied (s : State) : s.nextCtx.applied = (s.counter.length : Int) - nominalSecond :=
  congrArg (fun n : Nat => (n : Int) - nominalSecond) (State.passSegments_length _ _ s)

/-- R50 to R54: what the next epoch leaves of each reference. -/
theorem State.ref_nextEpoch {s : State} (h : s.resetHeld = false) (r : RefNo) :
    s.nextEpoch.ref r =
      (s.ref r).afterEpoch s.disc.stepped s.disc.settings.w ((s.counter.length : Int) - nominalSecond) := by
  obtain ⟨stepped, window, -⟩ := s.nextCtx_ended
  have start : s.atEpoch.timeStep.state.ref r = s.ref r := State.ref_congr (by simp) r
  rw [State.nextEpoch_eq h, State.ref_reactions _ s.nextOrder_nodup (s.mem_nextOrder _), start, stepped, window,
    s.nextCtx_applied]

/-- R52: only a GOOD second leaves a jitter base. -/
theorem nextJitterBase_eq (cls : Review) (offset : Option Int) (applied : Int) :
    nextJitterBase cls offset applied = if cls = .good then offset.map (fun e => e - applied) else none := by
  cases cls <;> simp [nextJitterBase]

/-- Settles O40: the loss check and then the table of R53 by state and class; an epoch reviews each reference once, in whatever order its blocks react. -/
theorem reviewMovesAReference : Obligations.ReviewMovesAReference := by
  refine ⟨fun x cls hcls => ⟨fun hs hc => ?_, fun hs hc => ?_, fun hs => ⟨fun hl => ?_, fun hl => ?_⟩⟩,
    fun s hr => ⟨_, rfl, fun r => ?_⟩⟩
  · subst hc
    rw [Reference.move_of_lost hs]
    simp only [Reference.moveBy, hs]
  · rw [Reference.move_of_lost hs]
    rcases hcls with rfl | rfl | ⟨c, rfl⟩
    · simp only [Reference.moveBy, hs]
    · exact absurd rfl hc
    · simp only [Reference.moveBy, hs]
  · exact Reference.move_lost (RefState.canLose_iff.2 hs) hl
  · rw [Reference.move_below hl]
    have missed := Reference.moveBy_missed (RefState.canLose_iff.2 hs)
    refine ⟨?_, ?_, ?_, ?_, ?_, ?_, ?_⟩
    · rintro rfl hm
      rw [missed]
      exact if_pos hm
    · rintro rfl hm
      rw [missed]
      exact if_neg (by omega)
    · rintro hq rfl
      simp only [Reference.moveBy, hq]
      exact ⟨fun hn => if_neg (by omega), fun hn => if_pos (by omega)⟩
    · rintro (hq | hq) ⟨c, rfl⟩ <;> simp only [Reference.moveBy, hq]
    · rintro hq rfl
      simp only [Reference.moveBy, hq]
    · rintro hq ⟨c, rfl⟩
      simp only [Reference.moveBy, hq]
      exact ⟨fun hn => if_neg (by omega), fun hn => if_pos (by omega)⟩
    · rintro hq rfl
      simp only [Reference.moveBy, hq]
      exact ⟨fun hn => if_neg (by omega), fun hn => if_pos (by omega)⟩
  · rw [State.ref_nextEpoch hr]
    unfold Reference.afterEpoch
    refine ⟨fun hoff => if_pos hoff, fun hon => ?_⟩
    rw [if_neg hon]
    refine ⟨fun hp => if_pos hp, fun hp hst => ?_, fun hp hst cls hcls => ?_⟩
    · rw [if_neg (by simp [hp]), if_pos hst]
      rfl
    · rw [if_neg (by simp [hp]), if_neg (by simp [hst]), hcls]
      simp only [Reference.reviewed, nextJitterBase_eq]
      rfl

end Sys2Proof.Machine
end

section
/-! Proofs: the capture of an edge (O38): which transitions are captures, what a capture records, and the leap indicator check. -/

namespace Sys2Proof.Machine

/-! ### The table's slots -/

/-- R87: what holds of some entry of the table holds of the entry of some slot number. -/
theorem State.exists_mem_slotList {s : State} {P : Option Slot → Prop} :
    (∃ o ∈ slotList s.slots, P o) ↔ ∃ k, P (s.slot k) := by
  constructor
  · rintro ⟨o, ho, hp⟩
    obtain ⟨k, hk, rfl⟩ := List.mem_iff_getElem.1 ho
    exact ⟨⟨k, by simpa using hk⟩, by simpa [State.slot] using hp⟩
  · rintro ⟨k, hp⟩
    exact ⟨s.slot k, Vector.mem_toList_iff.2 (Vector.getElem_mem k.isLt), hp⟩

/-- R48: the table holds a leap for a day where an active LEAP slot names it. -/
theorem State.activeLeapOn_iff {s : State} {day : Nat} :
    activeLeapOn s.slots day = true ↔
      ∃ k x d dir n, s.slot k = some x ∧ x.state.active = true ∧ x.content = .leap d dir n ∧ d = day := by
  simp only [activeLeapOn, List.any_eq_true, State.exists_mem_slotList, Option.any_eq_true]
  constructor
  · rintro ⟨k, x, hk, hx⟩
    split at hx
    · rename_i d dir n hc
      obtain ⟨ha, hd⟩ := (Bool.and_eq_true _ _).mp hx
      exact ⟨k, x, d, dir, n, hk, ha, hc, beq_iff_eq.1 hd⟩
    · cases hx
  · rintro ⟨k, x, d, dir, n, hk, ha, hc, hd⟩
    exact ⟨k, x, hk, by simp [hc, ha, hd]⟩

/-! ### The capture record -/

/-- R47: a word agrees with a label where each item in the mask is the label's. -/
theorem agrees_iff {m : Mask} {w : TimeWord} {l : Label} :
    agrees m w l = true ↔
      (m.sec = true → w.second = l.second) ∧ (m.min = true → w.minute = minuteOfHour l.minute) ∧
        (m.hour = true → w.hour = hourOfMinute l.minute) ∧
        (m.date = true → w.date = dateOfDay (dayOfMinute l.minute)) := by
  have item : ∀ (inMask : Bool) (p : Prop), (inMask = false ∨ p) ↔ (inMask = true → p) := by
    intro inMask p
    cases inMask <;> simp
  simp only [agrees, Bool.and_eq_true, Bool.or_eq_true, Bool.not_eq_true', beq_iff_eq, decide_eq_true_eq,
    and_assoc, item]

/-- R47: without a word or a label nothing is compared. -/
theorem agreementOf_unchecked {m : Mask} {word : Option TimeWord} {label : Option Label}
    (h : word = none ∨ label = none) : agreementOf m word label = .unchecked := by
  rcases h with rfl | rfl
  · rfl
  · cases word <;> rfl

/-- R49: the observations after a capture, item by item. -/
theorem SecondObs.record_eq (o : SecondObs) (c : Capture) :
    o.record c =
      { edges := min 2 (o.edges + 1), offset := if o.edges = 0 then some c.offset else o.offset,
        wordMissing := o.wordMissing || decide (c.word = none),
        disagreed := o.disagreed || decide (c.agreement = .disagree), excursion := o.excursion } := by
  unfold SecondObs.record
  cases c.word <;> rfl

section Capture

variable (s : State) (x : Reference)

/-- R42: an edge in the first half of the second is compared with the current label. -/
theorem State.captureOf_current (h : (s.counter.phase : Int) - x.delay < 5000000) :
    (s.captureOf x).offset = (s.counter.phase : Int) - x.delay ∧ (s.captureOf x).side = .current ∧
      (s.captureOf x).label = s.time.label := by
  simp [State.captureOf, offsetOf, sideOf, h, State.edgeLabel, State.now]

/-- R42, R43: one in the second half with the next. -/
theorem State.captureOf_next (h : 5000000 ≤ (s.counter.phase : Int) - x.delay) :
    (s.captureOf x).offset = (s.counter.phase : Int) - x.delay - 10000000 ∧ (s.captureOf x).side = .next ∧
      (s.captureOf x).label = s.nextLabel := by
  have late : ¬(s.counter.phase : Int) - x.delay < 5000000 := by omega
  simp [State.captureOf, offsetOf, sideOf, late, State.edgeLabel]

theorem State.captureOf_agreement :
    (s.captureOf x).agreement = agreementOf x.mask (s.captureOf x).word (s.captureOf x).label := rfl

/-- R47: a word is compared with a label over the mask. -/
theorem State.captureOf_compared {w : TimeWord} {l : Label} (hw : (s.captureOf x).word = some w)
    (hl : (s.captureOf x).label = some l) :
    (s.captureOf x).agreement = if agrees x.mask w l then .agree else .disagree := by
  rw [s.captureOf_agreement, hw, hl]
  rfl

end Capture

/-! ### The leap indicator check -/

section LeapMark

variable {s : State} {r : RefNo} {st : RefState} {c : Capture}

/-- R48: the check posts a notice or does nothing. -/
theorem State.checkLeapMark_eq (s : State) (r : RefNo) (st : RefState) (c : Capture) :
    s.checkLeapMark r st c = { s with notices := (s.checkLeapMark r st c).notices } := by
  unfold State.checkLeapMark
  split
  · dsimp only
    split <;> rfl
  · rfl

/-- R48: a GOOD reference's word that marks a leap which the table does not hold is reported. -/
theorem State.checkLeapMark_mismatch {w : TimeWord} {l : Label} (hw : c.word = some w) (hl : c.label = some l)
    (hs : st = .good) (hm : w.leap ≠ .nothing) (ht : activeLeapOn s.slots (monthEndOf (dayOfMinute l.minute)) = false) :
    s.checkLeapMark r st c = s.post (.leapMismatch r w.leap (monthEndOf (dayOfMinute l.minute))) (some l) := by
  simp only [State.checkLeapMark, hw, hl]
  exact if_pos ⟨hs, hm, ht⟩

/-- R48: nothing else is. -/
theorem State.checkLeapMark_none
    (h : ∀ w l, c.word = some w → c.label = some l → st = .good → w.leap ≠ .nothing →
      activeLeapOn s.slots (monthEndOf (dayOfMinute l.minute)) = true) : s.checkLeapMark r st c = s := by
  unfold State.checkLeapMark
  split
  · rename_i w l hw hl
    refine if_neg (fun ⟨hs, hm, ht⟩ => ?_)
    rw [h w l hw hl hs hm] at ht
    cases ht
  · rfl

end LeapMark

/-! ### A transition of an edge line -/

section Edge

variable {s : State} {r : RefNo} {edge : Edge}

/-- R41, R195: which transitions are captures. -/
theorem State.captures_iff :
    s.captures r edge = true ↔
      s.resetHeld = false ∧ s.pins.refe[r] ≠ levelAfter edge ∧ (s.ref r).state ≠ .off ∧ (s.ref r).polarity = edge := by
  simp only [State.captures, Bool.and_eq_true, Bool.not_eq_true', decide_eq_true_eq, and_assoc]

/-- R41: any other changes the line's level alone. -/
theorem execReferenceEdge_ignored (h : s.captures r edge ≠ true) :
    exec (.referenceEdge r edge) s = .next (s.setEdgePin r (levelAfter edge)) :=
  congrArg Host.Outcome.next (if_neg h)

/-- The capture that an edge of reference r makes now. -/
def State.captureNow (s : State) (r : RefNo) : Capture := s.captureOf (s.ref r)

/-- R46, R48, R49: what a capture records, the line having taken its new level. -/
def State.recordEdge (s : State) (r : RefNo) (l : Level) : State :=
  ((s.setEdgePin r l).checkLeapMark r (s.ref r).state (s.captureNow r)).setRef r ((s.ref r).capture (s.captureNow r))

/-- R49: a capture of a reference that is not selected goes no further. -/
theorem execReferenceEdge_unselected (h : s.captures r edge = true) (hsel : s.selector.selected ≠ some r) :
    exec (.referenceEdge r edge) s = .next (s.recordEdge r (levelAfter edge)) := by
  have event : (s.setEdgePin r (levelAfter edge)).edgeEvent r = (s.recordEdge r (levelAfter edge)).uncorrected :=
    if_neg (by simpa [State.setEdgePin] using hsel)
  exact congrArg Host.Outcome.next ((if_pos h).trans (by rw [event]; rfl))

theorem State.ref_recordEdge (l : Level) : (s.recordEdge r l).ref r = (s.ref r).capture (s.captureNow r) := by
  rw [State.recordEdge, State.ref_setRef, if_pos rfl]

theorem State.recordEdge_notices (l : Level) :
    (s.recordEdge r l).notices = ((s.setEdgePin r l).checkLeapMark r (s.ref r).state (s.captureNow r)).notices := rfl

/-- R49: it touches the reference, its line and the notices alone. -/
theorem State.recordEdge_eq (l : Level) :
    s.recordEdge r l =
      { s.setRef r ((s.recordEdge r l).ref r) with
        pins := { s.pins with refe := s.pins.refe.set r l }, notices := (s.recordEdge r l).notices } := by
  rw [State.ref_recordEdge, State.recordEdge_notices, State.recordEdge, State.checkLeapMark_eq]
  rfl

end Edge

/-- Settles O38: a transition that is no capture sets the line's level; a capture of a reference that is not selected is its record, the observations it adds to and the leap indicator check. -/
theorem edgeIsLatchedAndRecorded : Obligations.EdgeIsLatchedAndRecorded := by
  intro s r edge hr
  refine ⟨fun h => ?_, fun hon hpol hpin hsel => ?_⟩
  · refine execReferenceEdge_ignored (fun hc => ?_)
    obtain ⟨-, hpin, hon, hpol⟩ := State.captures_iff.1 hc
    rcases h with h | h | h
    · exact hon h
    · exact h hpol
    · exact hpin h
  · have capture : s.captures r edge = true := State.captures_iff.2 ⟨hr, hpin, hon, hpol⟩
    refine ⟨s.recordEdge r (levelAfter edge), s.captureNow r, execReferenceEdge_unselected capture hsel, rfl,
      s.captureOf_current (s.ref r), s.captureOf_next (s.ref r), rfl, agreementOf_unchecked, fun w l hw hl => ?_, ?_,
      fun w l hw hl hgood hmark hnone => ?_, fun h => ?_, State.recordEdge_eq _⟩
    · rw [State.captureNow, s.captureOf_compared _ hw hl]
      have items := agrees_iff (m := (s.ref r).mask) (w := w) (l := l)
      by_cases ha : agrees (s.ref r).mask w l = true
      · rw [if_pos ha]
        exact ⟨iff_of_true rfl (items.1 ha), fun hne => absurd rfl hne⟩
      · rw [if_neg ha]
        exact ⟨iff_of_false (by simp) (fun hi => ha (items.2 hi)), fun _ => rfl⟩
    · rw [State.ref_recordEdge, Reference.capture, SecondObs.record_eq]
    · have absent : activeLeapOn s.slots (monthEndOf (dayOfMinute l.minute)) = false := by
        refine Bool.eq_false_iff.2 (fun ht => ?_)
        obtain ⟨k, x, d, dir, n, hk, ha, hc, hd⟩ := State.activeLeapOn_iff.1 ht
        exact hnone k x d dir n hk ha hc hd
      rw [State.recordEdge_notices, State.checkLeapMark_mismatch (s := s.setEdgePin r (levelAfter edge)) hw hl hgood hmark absent]
      rfl
    · rw [State.recordEdge_notices, State.checkLeapMark_none]
      · rfl
      · intro w l hw hl hgood hmark
        rcases h with h | h | h | h | ⟨l', k, x, d, dir, n, hl', hk, ha, hc, hd⟩
        · rw [h] at hw; cases hw
        · rw [h] at hl; cases hl
        · exact absurd hgood h
        · exact absurd (h w hw) hmark
        · obtain rfl := Option.some.inj (hl.symm.trans hl')
          exact State.activeLeapOn_iff.2 ⟨k, x, d, dir, n, hk, ha, hc, hd⟩

end Sys2Proof.Machine
end

section
/-! Proofs: REFC (O20): what its fields are read as, which reference the selector's modes name, and what an enable, a disable and a priority do. -/

namespace Sys2Proof.Machine

/-! ### The fields of REFC -/

/-- R40: REFC on a free line. -/
theorem execRefc_free {s : State} (f : List Text) (h : s.lineFree) :
    exec (.refc f) s = .next ((ownRefc f s.hunting).send .refc) :=
  congrArg Host.Outcome.next (State.takeCommand_free .refc (ownRefc f) h)

theorem readName_edgeText (e : Edge) : readName edgeText [.rising, .falling] (edgeText e) = some e := by
  cases e <;> decide

theorem edgeText_ne_nil (e : Edge) : edgeText e ≠ [] := by
  cases e <;> decide

theorem readName_lossText (l : LossMode) : readName lossText [.normal, .extended] (lossText l) = some l := by
  cases l <;> decide

theorem lossText_ne_nil (l : LossMode) : lossText l ≠ [] := by
  cases l <;> decide

theorem readOnOff_onOff (b : Bool) : readOnOff (onOff b) = some b := by
  cases b <;> decide

theorem onOff_ne_nil (b : Bool) : onOff b ≠ [] := by
  cases b <;> decide

/-- R191: a mask has a text where it has a letter. -/
theorem maskText_ne_nil {m : Mask} (h : (m.sec || m.min || m.hour || m.date) = true) : maskText m ≠ [] := by
  obtain ⟨a, b, c, d⟩ := m
  revert a b c d
  decide

/-- R191: and it reads back as the mask. -/
theorem readMask_maskText {m : Mask} (h : (m.sec || m.min || m.hour || m.date) = true) :
    readMask (maskText m) = some m := by
  obtain ⟨a, b, c, d⟩ := m
  revert a b c d
  decide

/-- R40: it is taken where SEC is in it. -/
theorem readSecMask_maskText {m : Mask} (h : (m.sec || m.min || m.hour || m.date) = true) :
    readSecMask (maskText m) = if m.sec then some m else none := by
  simp only [readSecMask, readMask_maskText h]

/-- A field that stands at its position and reads as a value is that value. -/
theorem optField_value {α : Type} {fields : List Text} {i : Nat} {t : Text} {read : Text → Option α} {a : α}
    (h : fields[i - 1]? = some t) (ht : t ≠ []) (hr : read t = some a) : optField fields i read = .value a := by
  rw [optField_of_ne read h ht, hr]
  rfl

/-- A field that stands at its position and cannot be read is bad. -/
theorem optField_bad {α : Type} {fields : List Text} {i : Nat} {t : Text} {read : Text → Option α}
    (h : fields[i - 1]? = some t) (ht : t ≠ []) (hr : read t = none) : optField fields i read = .bad := by
  rw [optField_of_ne read h ht, hr]
  rfl

/-- R40: with its reference named, REFC is refused where a field is bad or surplus. -/
theorem ownRefc_bad {s : State} {f : List Text} (h : refcFine f = false) : ownRefc f s = s.refuse .range := by
  unfold ownRefc
  rw [h]
  split
  · rename_i hf
    cases hf
  · rfl

/-- R40: otherwise it sets what it gives and answers with the six settings. -/
theorem ownRefc_fine {s : State} {f : List Text} {r : RefNo} (hr : f[0]? = some (decimal (r.val + 1)))
    (h : refcFine f = true) {t : State}
    (ht : (s.setRef r ((s.ref r).withFields f)).setEnablePriority r (optField f 2 readOnOff).get?
      (optField f 7 (readWithin 1 3)).get? = t) :
    ownRefc f s = t.accept (refText r :: (t.ref r).settingFields) := by
  have ref : reqField f 1 readRef = some r := by
    rw [reqField_of_ne readRef hr (decimal_ne_nil _), readRef_decimal]
  unfold ownRefc
  rw [ref, h, ← ht]

/-- A reference put in its own place changes nothing. -/
theorem State.setRef_self (s : State) (r : RefNo) : s.setRef r (s.ref r) = s := by
  simp [State.setRef, State.ref]

/-- R40: a REFC that gives none of the four settings leaves them. -/
theorem Reference.withFields_absent {f : List Text} (x : Reference)
    (h : ∀ i, 3 ≤ i → i ≤ 6 → f[i - 1]? = some [] ∨ f[i - 1]? = none) :
    x.withFields f = x := by
  have absent : ∀ {α : Type} (i : Nat) (read : Text → Option α), 3 ≤ i → i ≤ 6 → optField f i read = .absent :=
    fun i read h3 h6 => optField_absent read (h i h3 h6)
  unfold Reference.withFields
  rw [absent 3 _ (by omega) (by omega), absent 4 _ (by omega) (by omega), absent 5 _ (by omega) (by omega),
    absent 6 _ (by omega) (by omega)]
  rfl

/-- R40: REFC with four settings, all in their ranges. -/
theorem ownRefc_settings {s : State} {r : RefNo} {e : Edge} {d : Nat} {m : Mask} {l : LossMode} (hd : d ≤ 50000)
    (hm : m.sec = true) :
    ownRefc [decimal (r.val + 1), [], edgeText e, decimal d, maskText m, lossText l] s =
      (s.setRef r { s.ref r with polarity := e, delay := d, mask := m, lossMode := l }).accept
        (refText r :: ({ s.ref r with polarity := e, delay := d, mask := m, lossMode := l } : Reference).settingFields) := by
  have letters : (m.sec || m.min || m.hour || m.date) = true := by simp [hm]
  generalize hf : [decimal (r.val + 1), [], edgeText e, decimal d, maskText m, lossText l] = f
  have polarity : optField f 3 (readName edgeText [.rising, .falling]) = .value e :=
    optField_value (by rw [← hf]; rfl) (edgeText_ne_nil e) (readName_edgeText e)
  have delay : optField f 4 (readWithin 0 50000) = .value d :=
    optField_value (by rw [← hf]; rfl) (decimal_ne_nil d)
      ((readWithin_decimal (by omega)).trans (if_pos ⟨Nat.zero_le d, hd⟩))
  have mask : optField f 5 readSecMask = .value m :=
    optField_value (by rw [← hf]; rfl) (maskText_ne_nil letters) ((readSecMask_maskText letters).trans (if_pos hm))
  have loss : optField f 6 (readName lossText [.normal, .extended]) = .value l :=
    optField_value (by rw [← hf]; rfl) (lossText_ne_nil l) (readName_lossText l)
  have enable : optField f 2 readOnOff = .absent := optField_absent _ (Or.inl (by rw [← hf]; rfl))
  have priority : optField f 7 (readWithin 1 3) = .absent := optField_absent _ (Or.inr (by rw [← hf]; rfl))
  have fine : refcFine f = true := by
    rw [refcFine, polarity, delay, mask, loss, enable, priority, ← hf]
    rfl
  rw [ownRefc_fine (r := r) (by rw [← hf]; rfl) fine rfl, enable, priority, Reference.withFields, polarity, delay, mask,
    loss]
  simp only [Opt.get?, State.setEnablePriority, Opt.or, State.ref_setRef, if_true]

/-- R40: a delay out of its range. -/
theorem refcFine_badDelay {t u e m l : Text} {d : Nat} (h : 50000 < d) (hd : d ≤ 999999999) :
    refcFine [t, u, e, decimal d, m, l] = false := by
  have delay : optField [t, u, e, decimal d, m, l] 4 (readWithin 0 50000) = .bad :=
    optField_bad rfl (decimal_ne_nil d) ((readWithin_decimal hd).trans (if_neg (by omega)))
  simp [refcFine, delay, Opt.fine]

/-- R40: a mask without SEC. -/
theorem refcFine_badMask {t u e d l : Text} {m : Mask} (hs : m.sec = false) (h : (m.min || m.hour || m.date) = true) :
    refcFine [t, u, e, d, maskText m, l] = false := by
  have letters : (m.sec || m.min || m.hour || m.date) = true := by simpa [hs] using h
  have mask : optField [t, u, e, d, maskText m, l] 5 readSecMask = .bad :=
    optField_bad rfl (maskText_ne_nil letters) ((readSecMask_maskText letters).trans (if_neg (by simp [hs])))
  simp [refcFine, mask, Opt.fine]

/-- R40: with only a reference number REFC changes nothing. -/
theorem ownRefc_number (s : State) (r : RefNo) :
    ownRefc [decimal (r.val + 1)] s = s.accept (refText r :: (s.ref r).settingFields) := by
  refine ownRefc_fine (r := r) rfl rfl ?_
  rw [Reference.withFields_absent _ (fun i h3 _ => Or.inr (List.getElem?_eq_none (by simp; omega))), State.setRef_self]
  rfl

/-- R40: REFC with an enable alone. -/
theorem ownRefc_enable (s : State) (r : RefNo) (on : Bool) :
    ownRefc [decimal (r.val + 1), onOff on] s =
      (s.setEnable r on).accept (refText r :: ((s.setEnable r on).ref r).settingFields) := by
  have enable : optField [decimal (r.val + 1), onOff on] 2 readOnOff = .value on :=
    optField_value rfl (onOff_ne_nil on) (readOnOff_onOff on)
  refine ownRefc_fine (r := r) rfl ?_ ?_
  · rw [refcFine, enable]
    rfl
  · rw [Reference.withFields_absent _ (fun i h3 _ => Or.inr (List.getElem?_eq_none (by simp; omega))),
      State.setRef_self, enable]
    rfl

/-- The fields of a REFC that gives a priority alone. -/
abbrev priorityFields (r : RefNo) (p : Nat) : List Text := [decimal (r.val + 1), [], [], [], [], [], decimal p]

theorem optField_priority {r : RefNo} {p : Nat} (hp : p ≤ 999999999) :
    optField (priorityFields r p) 7 (readWithin 1 3) = if 1 ≤ p ∧ p ≤ 3 then .value p else .bad := by
  split
  · rename_i h
    exact optField_value rfl (decimal_ne_nil p) ((readWithin_decimal hp).trans (if_pos h))
  · rename_i h
    exact optField_bad rfl (decimal_ne_nil p) ((readWithin_decimal hp).trans (if_neg h))

/-- R40: REFC with a priority in its range alone. -/
theorem ownRefc_priority (s : State) (r : RefNo) {p : Nat} (h1 : 1 ≤ p) (h3 : p ≤ 3) :
    ownRefc (priorityFields r p) s =
      (s.setPriority r p).accept (refText r :: ((s.setPriority r p).ref r).settingFields) := by
  have priority := (optField_priority (r := r) (p := p) (by omega)).trans (if_pos ⟨h1, h3⟩)
  refine ownRefc_fine (r := r) rfl ?_ ?_
  · rw [refcFine, priority]
    rfl
  · rw [Reference.withFields_absent, State.setRef_self, priority]
    · rfl
    · intro i hi hi'
      left
      have : i = 3 ∨ i = 4 ∨ i = 5 ∨ i = 6 := by omega
      rcases this with rfl | rfl | rfl | rfl <;> rfl

theorem refcFine_badPriority {r : RefNo} {p : Nat} (h : p = 0 ∨ 3 < p) (hp : p ≤ 999999999) :
    refcFine (priorityFields r p) = false := by
  have priority := (optField_priority (r := r) hp).trans (if_neg (by omega))
  simp [refcFine, priority, Opt.fine]

/-! ### The best GOOD reference -/

/-- R61: r comes before q, by priority value and then by number. -/
abbrev ranksBefore (refs : Vector Reference 3) (r q : RefNo) : Prop :=
  (refs[r]).priority < (refs[q]).priority ∨ ((refs[r]).priority = (refs[q]).priority ∧ r < q)

/-- R61: b is the best GOOD reference of qs, or none where none of them is GOOD. -/
def bestAmong (refs : Vector Reference 3) (qs : List RefNo) : Option RefNo → Prop
  | none => ∀ q ∈ qs, (refs[q]).state ≠ .good
  | some r => r ∈ qs ∧ (refs[r]).state = .good ∧ ∀ q ∈ qs, (refs[q]).state = .good → q ≠ r → ranksBefore refs r q

/-- R61: the comparison with one more reference, of a greater number, keeps the best. -/
theorem bestAmong_betterRef {refs : Vector Reference 3} {qs : List RefNo} {b : Option RefNo} {q : RefNo}
    (h : bestAmong refs qs b) (hq : ∀ p ∈ qs, p < q) : bestAmong refs (qs ++ [q]) (betterRef refs b q) := by
  unfold betterRef
  by_cases hg : (refs[q]).state = .good
  · rw [if_pos hg]
    cases b with
    | none =>
      refine ⟨by simp, hg, fun p hp hpg hne => ?_⟩
      rcases List.mem_append.1 hp with hp | hp
      · exact absurd hpg (h p hp)
      · exact absurd (List.mem_singleton.1 hp) hne
    | some r =>
      obtain ⟨hr, hrg, hbest⟩ := h
      dsimp only
      split
      · rename_i hlt
        refine ⟨by simp, hg, fun p hp hpg hne => ?_⟩
        rcases List.mem_append.1 hp with hp | hp
        · left
          by_cases hpr : p = r
          · rw [hpr]; exact hlt
          · rcases hbest p hp hpg hpr with hb | ⟨hb, -⟩ <;> omega
        · exact absurd (List.mem_singleton.1 hp) hne
      · rename_i hge
        refine ⟨List.mem_append_left _ hr, hrg, fun p hp hpg hne => ?_⟩
        rcases List.mem_append.1 hp with hp | hp
        · exact hbest p hp hpg hne
        · obtain rfl := List.mem_singleton.1 hp
          have := hq r hr
          rcases Nat.lt_or_eq_of_le (Nat.le_of_not_lt hge) with hb | hb
          · exact Or.inl hb
          · exact Or.inr ⟨hb, this⟩
  · rw [if_neg hg]
    cases b with
    | none =>
      intro p hp
      rcases List.mem_append.1 hp with hp | hp
      · exact h p hp
      · obtain rfl := List.mem_singleton.1 hp
        exact hg
    | some r =>
      obtain ⟨hr, hrg, hbest⟩ := h
      refine ⟨List.mem_append_left _ hr, hrg, fun p hp hpg hne => ?_⟩
      rcases List.mem_append.1 hp with hp | hp
      · exact hbest p hp hpg hne
      · obtain rfl := List.mem_singleton.1 hp
        exact absurd hpg hg

/-- R61: so the fold over the three references finds the best. -/
theorem bestGood_bestAmong (refs : Vector Reference 3) : bestAmong refs allRefs (bestGood refs) := by
  have start : bestAmong refs [] none := by simp [bestAmong]
  exact bestAmong_betterRef (bestAmong_betterRef (bestAmong_betterRef start (q := 0) (by decide)) (q := 1) (by decide))
    (q := 2) (by decide)

theorem mem_allRefs (r : RefNo) : r ∈ allRefs := by
  revert r
  decide

/-- R61: the selector's best reference is the best GOOD one. -/
theorem bestGood_iff {s : State} {r : RefNo} : bestGood s.refs = some r ↔ s.isBest r := by
  have best := bestGood_bestAmong s.refs
  constructor
  · intro h
    rw [h] at best
    exact ⟨best.2.1, fun q => best.2.2 q (mem_allRefs q)⟩
  · rintro ⟨hg, hbest⟩
    cases hb : bestGood s.refs with
    | none =>
      rw [hb] at best
      exact absurd hg (best r (mem_allRefs r))
    | some b =>
      rw [hb] at best
      obtain ⟨-, hbg, hfirst⟩ := best
      by_cases hne : b = r
      · rw [hne]
      · have one : ranksBefore s.refs b r := hfirst r (mem_allRefs r) hg (Ne.symm hne)
        have other : ranksBefore s.refs r b := hbest b hbg hne
        rcases one with h1 | ⟨h1, h1'⟩ <;> rcases other with h2 | ⟨h2, h2'⟩
        · omega
        · omega
        · omega
        · exact absurd (Fin.lt_def.1 h1') (Nat.lt_asymm (Fin.lt_def.1 h2'))

/-! ### An evaluation of the selector -/

section Evaluate

variable (s : State) (k : SelCause) (l : Option Label)

/-- R61: an evaluation keeps the mode. -/
theorem State.evaluate_mode : (s.evaluate k l).selector.mode = s.selector.mode := by
  unfold State.evaluate
  dsimp only
  split <;> simp

/-- R61: it reads the references as they are after it. -/
theorem State.evaluate_isBest (r : RefNo) : (s.evaluate k l).isBest r ↔ s.isBest r := by
  simp only [State.isBest, State.ref_congr (s.evaluate_frame k l).2.1]

/-- R61: under AUTO_REVERT it selects the best GOOD reference. -/
theorem State.evaluate_autoRevert (hm : s.selector.mode = .autoRevert) (r : RefNo) :
    (s.evaluate k l).selector.selected = some r ↔ s.isBest r := by
  rw [State.evaluate_selected, choose, hm]
  exact bestGood_iff

/-- R61: under AUTO_HOLD a GOOD selected reference stays. -/
theorem State.evaluate_autoHold (hm : s.selector.mode = .autoHold) {r : RefNo} (hs : s.selector.selected = some r)
    (hg : (s.ref r).state = .good) : (s.evaluate k l).selector.selected = some r := by
  rw [State.evaluate_selected, choose, hm]
  simp only [hs]
  exact if_pos hg

/-- R61: under FORCE the forced reference is selected where it is GOOD. -/
theorem State.evaluate_force {f : RefNo} (hm : s.selector.mode = .force f) (r : RefNo) :
    (s.evaluate k l).selector.selected = some r ↔ r = f ∧ (s.ref f).state = .good := by
  rw [State.evaluate_selected, choose, hm]
  change (if (s.ref f).state = .good then some f else none) = some r ↔ _
  split <;> simp_all [eq_comm]

/-- R62: a change of the selection is listed as SELECT, unless masked. -/
theorem State.evaluate_lists (hne : (s.evaluate k l).selector.selected ≠ s.selector.selected)
    (hm : NoticeKind.select ∉ s.notices.mask) :
    (s.evaluate k l).lists
      (.select s.selector.selected (s.evaluate k l).selector.selected s.selector.mode k) l := by
  rw [State.evaluate_selected] at hne ⊢
  unfold State.evaluate
  dsimp only
  rw [if_neg hne]
  exact (State.takeSelection_postsOnly _ _ _ _).lists (by simp [NoticeData.kind]) (State.lists_post _ hm)

end Evaluate

/-! ### Priority and enable -/

section Setting

variable {s : State} {r : RefNo}

/-- R40: a priority already held changes nothing. -/
theorem State.setPriority_held {p : Nat} (h : p = (s.ref r).priority) : s.setPriority r p = s := if_pos h.symm

/-- R40, R62: another one is set, and the selector evaluates. -/
theorem State.setPriority_new {p : Nat} (h : p ≠ (s.ref r).priority) :
    s.setPriority r p = (s.setRef r { s.ref r with priority := p }).evaluate .priority s.now :=
  if_neg (Ne.symm h)

/-- R40: a priority is no part of a reference's state. -/
theorem State.state_setRef_priority {p : Nat} (q : RefNo) :
    ((s.setRef r { s.ref r with priority := p }).ref q).state = (s.ref q).state := by
  rw [State.ref_setRef]
  split
  · rename_i h
    rw [h]
  · rfl

/-- R56: a reference that is not OFF is disabled. -/
theorem State.setEnable_off (h : (s.ref r).state ≠ .off) :
    s.setEnable r false = s.changeRef r (s.ref r).state (s.ref r).disabled .disabled s.now := by
  simp [State.setEnable, h]

/-- R56: an OFF one is enabled. -/
theorem State.setEnable_on (h : (s.ref r).state = .off) :
    s.setEnable r true = s.changeRef r .off (s.ref r).enabled .enabled s.now := by
  simp [State.setEnable, h]

/-- R57: a change of state keeps the selector's mode. -/
theorem State.changeRef_mode (s : State) (r : RefNo) (p : RefState) (x : Reference) (k : RefCause) (l : Option Label) :
    (s.changeRef r p x k l).selector.mode = s.selector.mode :=
  State.evaluate_mode _ _ _

/-- R61: a reference that a change of state leaves not GOOD is not selected behind it. -/
theorem State.changeRef_not_selected {p : RefState} {x : Reference} {k : RefCause} {l : Option Label}
    (h : x.state ≠ .good) : (s.changeRef r p x k l).selector.selected ≠ some r := by
  intro hsel
  have good := State.evaluate_selectedGood _ _ _ r hsel
  rw [show (((s.setRef r x).post (.refState r p x.state k) l).evaluate .state l).ref r = x from
    (s.ref_changeRef r r p x k l).trans (if_pos rfl)] at good
  exact h good

end Setting

/-! ### The three uses of REFC -/

/-- t is s but for one reference, the selection and what follows from it: the other references, the time and the other blocks are as they were. -/
structure State.differsAt (t s : State) (r : RefNo) (x : Reference) : Prop where
  self : t.ref r = x
  others : ∀ q, q ≠ r → t.ref q = s.ref q
  mode : t.selector.mode = s.selector.mode
  time : t.time = s.time
  counter : t.counter = s.counter
  slots : t.slots = s.slots
  keyer : t.keyer = s.keyer
  chains : t.chains = s.chains
  monitor : t.monitor = s.monitor
  nextRecord : t.nextRecord = s.nextRecord

section Uses

variable {s : State} {r : RefNo}

/-- R57: a change of a reference's state touches no other reference and no other block. -/
theorem State.changeRef_differsAt (s : State) (r : RefNo) (p : RefState) (x : Reference) (k : RefCause)
    (l : Option Label) : (s.changeRef r p x k l).differsAt s r x := by
  refine ⟨?_, fun q hq => ?_, s.changeRef_mode r p x k l, ?_, ?_, ?_, ?_, ?_, ?_, ?_⟩
  · rw [State.ref_changeRef, if_pos rfl]
  · rw [State.ref_changeRef, if_neg hq]
  all_goals simp

/-- R40, R62: nor does a change of its priority. -/
theorem State.setPriority_differsAt {p : Nat} (h : p ≠ (s.ref r).priority) :
    (s.setPriority r p).differsAt s r { s.ref r with priority := p } := by
  rw [State.setPriority_new h]
  have refs := (s.setRef r { s.ref r with priority := p }).evaluate_frame .priority s.now
  refine ⟨?_, fun q hq => ?_, State.evaluate_mode _ _ _, ?_, ?_, ?_, ?_, ?_, ?_, ?_⟩
  · rw [State.ref_congr refs.2.1, State.ref_setRef, if_pos rfl]
  · rw [State.ref_congr refs.2.1, State.ref_setRef, if_neg hq]
  all_goals simp

/-- The port's part in a command, before and behind the owner's, touches none of this. -/
theorem State.differsAt.sent {t : State} {x : Reference} (h : t.differsAt s.hunting r x) (fields : List Text)
    (c : Command) : ((t.accept fields).send c).differsAt s r x :=
  ⟨h.self, h.others, h.mode, h.time, h.counter, h.slots, h.keyer, h.chains, h.monitor, h.nextRecord⟩

/-- R56, R57: REFC OFF. -/
theorem execRefc_off (hf : s.lineFree) (hon : (s.ref r).state ≠ .off) :
    ∃ t, exec (.refc [decimal (r.val + 1), "OFF".toList]) s = .next t ∧ t.differsAt s r (s.ref r).disabled ∧
      t.selector.selected ≠ some r := by
  refine ⟨_, (execRefc_free _ hf).trans (congrArg (fun a : Answer => Host.Outcome.next (a.send .refc))
    (ownRefc_enable s.hunting r false)), State.differsAt.sent ?_ _ _, ?_⟩
  · rw [State.setEnable_off (s := s.hunting) hon]
    exact State.changeRef_differsAt _ _ _ _ _ _
  · rw [State.setEnable_off (s := s.hunting) hon]
    exact State.changeRef_not_selected (by simp [Reference.disabled])

/-- R56, R57: REFC ON of an OFF reference. -/
theorem execRefc_on (hf : s.lineFree) (hoff : (s.ref r).state = .off) :
    ∃ t, exec (.refc [decimal (r.val + 1), "ON".toList]) s = .next t ∧ t.differsAt s r (s.ref r).enabled := by
  refine ⟨_, (execRefc_free _ hf).trans (congrArg (fun a : Answer => Host.Outcome.next (a.send .refc))
    (ownRefc_enable s.hunting r true)), State.differsAt.sent ?_ _ _⟩
  rw [State.setEnable_on (s := s.hunting) hoff]
  exact State.changeRef_differsAt _ _ _ _ _ _

/-- R40: REFC with a priority in its range. -/
theorem execRefc_priority (hf : s.lineFree) {p : Nat} (h1 : 1 ≤ p) (h3 : p ≤ 3) :
    exec (.refc (priorityFields r p)) s =
      .next (((s.hunting.setPriority r p).accept
        (refText r :: ((s.hunting.setPriority r p).ref r).settingFields)).send .refc) := by
  rw [execRefc_free _ hf, ownRefc_priority _ _ h1 h3]

theorem execRefc_number (hf : s.lineFree) (r : RefNo) :
    exec (.refc [decimal (r.val + 1)]) s =
      .next ((s.hunting.accept (refText r :: (s.ref r).settingFields)).send .refc) := by
  rw [execRefc_free _ hf, ownRefc_number]
  rfl

/-- R173: REFC with a bad or surplus field. -/
theorem execRefc_bad (hf : s.lineFree) {f : List Text} (h : refcFine f = false) :
    exec (.refc f) s = .next (s.replied .refc .range []) := by
  rw [execRefc_free _ hf, ownRefc_bad h, State.refuse_send]

end Uses

/-- Settles O20: the fields read back as what they spell; an enable, a disable and a new priority replace one reference's record, and the evaluation behind them names the selection by its mode. -/
theorem refcSetsAReference : Obligations.RefcSetsAReference := by
  refine ⟨fun s r e d m l hf => ⟨fun hd hm => ?_, execRefc_number hf r, fun hd hd' => ?_, fun hm hm' => ?_⟩,
    fun s r hf => ⟨fun hon => ?_, fun hoff => ?_⟩, fun s r p hf => ⟨fun h1 h3 hne => ?_, fun h1 h3 heq => ?_, ?_⟩⟩
  · rw [execRefc_free _ hf, ownRefc_settings hd hm]
    rfl
  · exact execRefc_bad hf (refcFine_badDelay hd hd')
  · exact execRefc_bad hf (refcFine_badMask hm hm')
  · obtain ⟨t, ht, h, hsel⟩ := execRefc_off hf hon
    exact ⟨t, ht, h.self, hsel, h.mode, h.others, h.time, h.counter, h.slots, h.keyer, h.chains, h.monitor,
      h.nextRecord⟩
  · obtain ⟨t, ht, h⟩ := execRefc_on hf hoff
    exact ⟨t, ht, h.self, h.others, h.time, h.counter, h.slots, h.keyer, h.chains, h.monitor, h.nextRecord⟩
  · generalize hu : s.hunting.setRef r { s.ref r with priority := p } = u
    have evaluated : s.hunting.setPriority r p = u.evaluate .priority s.time.label := by
      rw [State.setPriority_new (s := s.hunting) hne, ← hu]
      rfl
    have h := (State.setPriority_differsAt (s := s.hunting) hne).sent
      (refText r :: ((s.hunting.setPriority r p).ref r).settingFields) .refc
    have state : ∀ q, (u.ref q).state = (s.ref q).state := fun q => by rw [← hu]; exact State.state_setRef_priority q
    have selector : u.selector = s.selector := by rw [← hu]; rfl
    have disc : u.disc = s.disc := by rw [← hu]; rfl
    have notices : u.notices = s.notices := by rw [← hu]; rfl
    refine ⟨_, execRefc_priority hf h1 h3, h.self, h.others, h.mode, ?_, ?_, ?_, ?_, ?_, h.time, h.counter, h.slots,
      h.keyer, h.chains, h.monitor, h.nextRecord⟩
    all_goals rw [evaluated, ← selector]
    · exact fun hm q => (u.evaluate_autoRevert _ _ hm q).trans (u.evaluate_isBest _ _ q).symm
    · exact fun hm q hsel hg => u.evaluate_autoHold _ _ hm hsel ((state q).trans hg)
    · exact fun f hm q => (u.evaluate_force _ _ hm q).trans (by rw [state f])
    · rw [← disc, ← notices]
      exact (u.evaluate_tookSelection _ _).1
    · rw [← notices]
      exact u.evaluate_lists _ _
  · rw [execRefc_number hf, execRefc_priority hf h1 h3, State.setPriority_held (s := s.hunting) heq]
    rfl
  · exact fun h hp => execRefc_bad hf (refcFine_badPriority h hp)

end Sys2Proof.Machine
end

section
/-! Proofs: a law through a step: a law that each part of the model keeps, and that looks neither at the control port nor at the notice list, is kept by every row of the table, by every tick and so by every step. -/

namespace Sys2Proof.Machine

/-- What the blocks of the part hold besides the control port and the notice list; the input pins and lines, the strobes, the held reset, the free numbers and the queue are left out as well. -/
def State.blocks (s : State) : State :=
  { State.reset with
    time := s.time, refs := s.refs, selector := s.selector, counter := s.counter, disc := s.disc, slots := s.slots,
    nextRecord := s.nextRecord, keyer := s.keyer, chains := s.chains, monitor := s.monitor }

/-- The law P speaks of the blocks alone, holds after a reset, and is kept by each thing that reaches them. -/
structure KeptByParts (P : State → Prop) : Prop where
  congr : ∀ {s t : State}, P s → t.blocks = s.blocks → P t
  cleared : ∀ s : State, P s.cleared
  owner : ∀ {s : State} (c : Command) (f : List Text), P s → P (ownerOf c f s).state
  edge : ∀ {s : State} (r : RefNo), P s → P (s.edgeEvent r).state
  word : ∀ {s : State} (r : RefNo) (w : Option Text), P s → P (s.setRef r ((s.ref r).endWord w))
  char : ∀ {s : State} (r : RefNo) (ch : RxChar), P s → P (s.setRef r ((s.ref r).takeChar ch))
  watch : ∀ {s : State} (edge : Edge), P s → P (s.watch edge)
  ready : ∀ {s : State} (c : Chain) (l : Level), P s → P (s.readyChange c l)
  reach : ∀ {s : State} (t : Nat), P s → P (s.reach t)
  segment : ∀ {s : State}, P s → P s.segmentPoint
  epoch : ∀ {s : State}, P s → P s.localEpoch

/-- What holds on both branches of a choice holds of the choice. -/
theorem holds_ite {α : Type} {P : α → Prop} {p : Prop} [Decidable p] {a b : α} (ha : P a) (hb : P b) :
    P (if p then a else b) :=
  iteInduction (fun _ => ha) (fun _ => hb)

namespace KeptByParts

variable {P : State → Prop} {s : State} (law : KeptByParts P)
include law

/-! ### The control port -/

theorem release (s : State) (source : ResetSource) (a b : Level) : P (s.release source a b) :=
  law.congr (law.cleared { s with pins := { s.pins with bs1 := a, bs0 := b } }) rfl

theorem takeCommand (c : Command) (f : List Text) (h : P s) : P (s.takeCommand c (ownerOf c f)) := by
  have hunting : P s.hunting := law.congr h rfl
  unfold State.takeCommand
  split
  · exact h
  · split
    · exact law.congr h rfl
    · exact law.congr (law.owner c f hunting) rfl

theorem completeRecord (chars : Text) (overlong badChar : Bool) (h : P s) :
    P (s.completeRecord ownerOf chars overlong badChar) := by
  have hunting : P s.hunting := law.congr h rfl
  unfold State.completeRecord
  split
  · exact h
  · split
    · exact law.congr h rfl
    · split
      · exact law.congr h rfl
      · exact law.congr (law.owner _ _ hunting) rfl

theorem receiveChar (ch : RxChar) (h : P s) : P (s.receiveChar ownerOf ch) := by
  have stored : P (s.storeChar ch.code) := holds_ite (law.congr h rfl) (law.congr h rfl)
  unfold State.receiveChar
  refine holds_ite h ?_
  split
  · exact holds_ite (law.congr h rfl) h
  · exact holds_ite (law.congr h rfl) (holds_ite (law.congr h rfl)
      (holds_ite (law.completeRecord _ _ _ h) (holds_ite stored (law.congr h rfl))))

theorem endReply (h : P s) : P s.endReply := holds_ite (law.release s _ _ _) (law.congr h rfl)

/-! ### Words and the next epoch -/

theorem receiveWordChar (r : RefNo) (ch : RxChar) (h : P s) : P (s.receiveWordChar r ch) := holds_ite (law.char r ch h) h

theorem passSegments (t fuel : Nat) (h : P s) : P (State.passSegments t fuel s) := by
  induction fuel generalizing s with
  | zero => exact h
  | succ fuel ih =>
    unfold State.passSegments
    split
    · exact h
    · exact holds_ite (ih (law.segment h)) h

theorem nextEpoch (h : P s) : P s.nextEpoch := holds_ite h (law.epoch (law.reach _ (law.passSegments _ _ h)))

theorem finish {c : CaptureStep} (h : P c.state) : P c.finish := holds_ite (law.epoch h) h

/-! ### A tick -/

theorem tickEvent (e : TickEvent) (h : P s) : P (s.tickEvent e) := by
  cases e with
  | charSent =>
    unfold State.tickEvent
    dsimp only
    split
    · exact h
    · unfold State.nextChar
      split
      · exact law.congr h rfl
      · exact law.endReply h
  | controlChar ch => exact law.receiveChar ch h
  | wordChar r ch => exact law.receiveWordChar r ch h
  | epoch => exact law.epoch h

theorem idle (h : P s) : P s.idle := by
  have pass : P s.passTick := law.congr (law.reach (s.counter.phase + 1) h) rfl
  exact holds_ite h (holds_ite (law.segment h) (State.tick_induct P pass (law.congr pass rfl) (fun _ e => law.tickEvent e)))

/-! ### A step -/

theorem exec {i : Instr} {t : State} (h : P s) (hx : exec i s = .next t) : P t := by
  cases i <;> obtain rfl := Host.Outcome.next.inj hx
  case rsetResetTaken a b => exact holds_ite h (holds_ite (law.release s _ _ _) h)
  case recordNotTaken chars overlong badChar => exact law.completeRecord _ _ _ h
  case overrun chars => exact law.completeRecord _ _ _ h
  case restart => exact law.receiveChar _ h
  case controlCharacterReceived ch => exact law.receiveChar ch h
  case replySent => exact holds_ite h (law.endReply h)
  case resetAsserted => exact law.congr (law.cleared s) rfl
  case resetReleased a b => exact holds_ite (law.release s _ _ _) h
  case localEpoch => exact law.nextEpoch h
  case timeEnd | holdoverLimitH1 | holdoverExpiry => exact holds_ite (law.nextEpoch h) h
  case referenceEdge r edge =>
    have pin : P (s.setEdgePin r (levelAfter edge)) := law.congr h rfl
    exact holds_ite (law.finish (law.edge r pin)) pin
  case wordCompletion r word => exact holds_ite (law.word r word h) h
  case wordCharacterReceived r ch => exact law.receiveWordChar r ch h
  case monitorTransition edge =>
    have pin : P (s.setMonPin (levelAfter edge)) := law.congr h rfl
    exact holds_ite (law.watch edge pin) pin
  case chainReady c level =>
    have pin : P (s.setReadyPin c level) := law.congr h rfl
    exact holds_ite (law.ready c level pin) pin
  case envelopeSegment => exact holds_ite h (law.segment h)
  all_goals exact law.takeCommand _ _ h

/-- A law that every part keeps is kept by every step. -/
theorem step {t : State} (h : P s) (hx : step s = .next t) : P t := by
  cases hp : s.pending with
  | nil =>
    rw [step_of_nil hp] at hx
    obtain rfl := Host.Outcome.next.inj hx
    exact law.idle h
  | cons c rest =>
    rw [step_of_cons hp] at hx
    exact law.exec (s := { s with pending := rest }) (law.congr h rfl) hx

end KeptByParts

end Sys2Proof.Machine
end

section
/-! Proofs: the law of the records (O51): what each operation does to NEXT and AIR. -/

namespace Sys2Proof.Machine

/-! ### What the law of the records looks at -/

/-- R121: the law speaks of NEXT and AIR alone. -/
theorem State.recordsHold_of_eq {s t : State} (h : s.recordsHold) (hn : t.nextRecord = s.nextRecord)
    (ha : t.keyer.air = s.keyer.air) : t.recordsHold := by
  unfold State.recordsHold State.airUnmarked at *
  simpa only [hn, ha] using h

/-- What leaves NEXT and the keyer as they are keeps the law. -/
theorem State.recordsHold_of_frame {s t : State} (h : s.recordsHold) (hn : t.nextRecord = s.nextRecord)
    (hk : t.keyer = s.keyer) : t.recordsHold :=
  State.recordsHold_of_eq h hn (by rw [hk])

/-- NEXT may take any record with the parity of its own fields, or none. -/
theorem State.recordsHold_of_next {s t : State} (h : s.recordsHold) (hn : ∀ r, t.nextRecord = some r → r.parityHolds)
    (hk : t.keyer = s.keyer) : t.recordsHold := by
  refine ⟨hn, ?_⟩
  unfold State.airUnmarked
  rw [hk]
  exact h.2

/-- AIR may become empty. -/
theorem State.recordsHold_emptyAir {s t : State} (h : s.recordsHold) (hn : t.nextRecord = s.nextRecord)
    (ha : t.keyer.air = none) : t.recordsHold := by
  refine ⟨by rw [hn]; exact h.1, fun r hr => ?_, fun r hr => ?_⟩
  · rw [ha] at hr; cases hr
  · rw [ha] at hr; cases hr

/-- R125: the stale mark is no field, and leaves the parity. -/
theorem State.recordsHold_markStale {s : State} (h : s.recordsHold) : s.markStale.recordsHold := by
  refine State.recordsHold_of_next h (fun r hr => ?_) rfl
  obtain ⟨q, hq, rfl⟩ := Option.map_eq_some_iff.1 hr
  exact h.1 q hq

/-- R187: a reset leaves NEXT and AIR empty. -/
theorem State.recordsHold_cleared (s : State) : s.cleared.recordsHold := by
  refine ⟨fun r hr => ?_, fun r hr => ?_, fun r hr => ?_⟩ <;> cases hr

/-! ### Composing -/

/-- R123: NEXT holds the record placed. -/
theorem State.place_nextRecord (s : State) (r : Record) : (s.place r).nextRecord = some r := by
  unfold State.place
  split <;> rfl

/-- R113: NEXT holds the record composed from the table behind its transitions. -/
theorem State.compose_nextRecord (s : State) (l : Label) (q : Nat) :
    (s.compose l q).nextRecord =
      some ((s.tableAtComposition (l.minute + 1) (l.minute + 2) (some l)).newRecord l q) :=
  State.place_nextRecord _ _

/-- R121: a composition computes the parity of the fields that it composes. -/
theorem State.recordsHold_composition {s : State} (label : Option Label) (h : s.recordsHold) :
    (s.composition label).recordsHold := by
  unfold State.composition
  split
  · rename_i l q _ _
    refine holds_ite (State.recordsHold_of_next h (fun r hr => ?_) (by simp)) h
    rw [State.compose_nextRecord] at hr
    obtain rfl := Option.some.inj hr
    rfl
  · exact h

/-! ### Keying -/

/-- R131: a record that passes the three tests bears no mark. -/
theorem Record.unmarked_of_passed {r : Record} {m length : Nat} (h : r.failedTest m length = none) : r.stale = false :=
  Bool.eq_false_iff.2 (fun hs => Record.failedTest_of_stale m length hs h)

/-- R131: what the keyer takes into AIR has passed its tests. -/
theorem State.recordsHold_takeRecord {s : State} (m : Nat) (l : Option Label) (h : s.recordsHold) :
    (s.takeRecord m l).recordsHold := by
  have noRecord : ∀ r : Record, none = some r → r.parityHolds := fun r hr => by cases hr
  have emptied : (({ s with nextRecord := none } : State).setAir none).recordsHold :=
    State.recordsHold_emptyAir (State.recordsHold_of_next (t := { s with nextRecord := none }) h noRecord rfl) rfl rfl
  unfold State.takeRecord
  dsimp only
  split
  · exact emptied
  · rename_i r hr
    split
    · rename_i passed
      refine ⟨noRecord, fun q hq => ?_, fun q hq => ?_⟩ <;> obtain rfl := Option.some.inj hq
      · exact h.1 r hr
      · exact Record.unmarked_of_passed passed
    · exact State.recordsHold_of_frame emptied rfl rfl

/-- R133: the test of AIR keeps its record or discards it. -/
theorem State.recordsHold_testAir {s : State} (m : Nat) (l : Option Label) (h : s.recordsHold) :
    (s.testAir m l).recordsHold := by
  have emptied : (s.setAir none).recordsHold := State.recordsHold_emptyAir h rfl rfl
  unfold State.testAir
  split
  · exact h
  · split
    · exact h
    · exact holds_ite (State.recordsHold_of_eq emptied (by simp) (State.setMode_air _ _ _ _))
        (State.recordsHold_of_frame emptied rfl rfl)

theorem State.testMode_air (s : State) (l : Option Label) : (s.testMode l).keyer.air = s.keyer.air := by
  unfold State.testMode
  split
  · exact s.setMode_air _ _ _
  · rfl

/-- R131 to R139: the keyer at an epoch. -/
theorem State.recordsHold_keyerEpoch {s : State} (c : EpochCtx) (h : s.recordsHold) : (s.keyerEpoch c).recordsHold := by
  have tested : ∀ {t : State}, t.recordsHold → (t.testMode c.label).recordsHold := fun ht =>
    State.recordsHold_of_eq ht (by simp) (State.testMode_air _ _)
  have boundary : ∀ m, (s.keyerBoundary m c.label).recordsHold := fun m =>
    State.recordsHold_of_eq (s.recordsHold_takeRecord m c.label h) (by simp [State.keyerBoundary])
      ((State.setMode_air _ _ _ _).trans (State.envelopeInForce_air _))
  have other : (s.keyerOther c).recordsHold := by
    unfold State.keyerOther
    split
    · exact tested (holds_ite (State.recordsHold_testAir _ _ h) h)
    · exact tested h
  have scheduled : ∀ {t : State}, t.recordsHold → (t.makeSchedule c.label).recordsHold := fun ht =>
    State.recordsHold_of_eq ht rfl rfl
  unfold State.keyerEpoch
  refine scheduled ?_
  split
  · exact holds_ite (boundary _) other
  · exact other

/-- R144: the shaper's points leave AIR. -/
theorem State.segmentPoint_air (s : State) : s.segmentPoint.keyer.air = s.keyer.air := by
  unfold State.segmentPoint
  split
  · rfl
  · simp only [State.enterPhase, State.loopTransition_frame]
    rfl

/-! ### An epoch -/

/-- R34: a performed load leaves AIR and marks the record in NEXT. -/
theorem State.recordsHold_performLoad {s : State} (p : PendingLoad) (h : s.recordsHold) :
    (s.performLoad p).recordsHold :=
  State.recordsHold_of_frame (State.recordsHold_markStale h) (s.performLoad_nextRecord p) (by simp)

/-- R20: the advance leaves the records. -/
theorem State.recordsHold_advanceLabel {s : State} (h : s.recordsHold) : s.advanceLabel.recordsHold :=
  State.recordsHold_of_frame h (by simp) (by simp)

/-- R34, R125: of the time scale's parts at an epoch only a performed load touches a record. -/
theorem State.recordsHold_timeStep {s : State} (h : s.recordsHold) : s.timeStep.state.recordsHold := by
  have considered : s.noLoad.recordsHold := State.recordsHold_of_frame h rfl rfl
  cases hp : s.time.pending with
  | none =>
    rw [State.timeStep_plain hp]
    exact State.recordsHold_advanceLabel considered
  | some p =>
    cases hd : s.declineReason p with
    | some reason =>
      rw [State.timeStep_declined hp hd]
      exact State.recordsHold_advanceLabel (State.recordsHold_of_frame considered rfl rfl)
    | none =>
      by_cases hn : s.nextLabel = some p.target
      · rw [State.timeStep_unchanged hp hd hn]
        unfold State.unchangedLoad
        dsimp only
        split
        · exact State.recordsHold_of_frame (State.recordsHold_advanceLabel considered) rfl rfl
        · exact State.recordsHold_advanceLabel considered
      · rw [State.timeStep_performed hp hd hn]
        exact State.recordsHold_performLoad p considered

/-- R112, R131: of the reactions to an epoch only the composer and the keyer touch a record. -/
theorem State.recordsHold_react {s : State} (c : EpochCtx) (x : Reaction) (h : s.recordsHold) :
    (s.react c x).recordsHold := by
  by_cases hk : x = .keyer
  · subst hk
    exact State.recordsHold_keyerEpoch c h
  by_cases hcomp : x = .composition
  · subst hcomp
    exact State.recordsHold_composition c.label h
  · exact State.recordsHold_of_frame h (s.react_nextRecord c hk hcomp) (s.react_keyer c hk)

theorem State.recordsHold_localEpoch {s : State} (h : s.recordsHold) : s.localEpoch.recordsHold :=
  State.localEpoch_induct State.recordsHold
    (State.recordsHold_timeStep (State.recordsHold_of_frame h rfl rfl)) (fun c _ x => State.recordsHold_react c x)

/-! ### Commands -/

/-- R40, R56: priority and enable leave NEXT and the keyer. -/
theorem State.setEnablePriority_records (s : State) (r : RefNo) (on : Option Bool) (p : Option Nat) :
    (s.setEnablePriority r on p).nextRecord = s.nextRecord ∧ (s.setEnablePriority r on p).keyer = s.keyer := by
  have priority : ∀ (t : State) (p : Nat),
      (t.setPriority r p).nextRecord = t.nextRecord ∧ (t.setPriority r p).keyer = t.keyer := by
    intro t p
    unfold State.setPriority
    split <;> simp
  unfold State.setEnablePriority
  split
  · unfold State.setBoth
    split <;> simp [priority]
  · simp
  · exact priority s _
  · exact ⟨rfl, rfl⟩

/-- R142, R173: no command touches NEXT or AIR; of the keyer KEYC stages an envelope alone. -/
theorem ownerOf_records (c : Command) (f : List Text) (s : State) :
    (ownerOf c f s).state.nextRecord = s.nextRecord ∧ (ownerOf c f s).state.keyer.air = s.keyer.air := by
  cases c with
  | stat => simp only [ownerOf, ownStat]; split <;> exact ⟨rfl, rfl⟩
  | sett => simp only [ownerOf, ownSett]; split <;> (try split) <;> exact ⟨rfl, rfl⟩
  | refc =>
    simp only [ownerOf, ownRefc]
    split
    · rename_i r _ _
      obtain ⟨hn, hk⟩ := (s.setRef r ((s.ref r).withFields f)).setEnablePriority_records r
        (optField f 2 readOnOff).get? (optField f 7 (readWithin 1 3)).get?
      exact ⟨hn, congrArg Keyer.air hk⟩
    · exact ⟨rfl, rfl⟩
  | refs => simp only [ownerOf, ownRefs]; split <;> exact ⟨rfl, rfl⟩
  | selc => simp only [ownerOf, ownSelc]; split <;> simp [State.refuse, State.accept]
  | disc => simp only [ownerOf, ownDisc]; split <;> (try split) <;> exact ⟨rfl, rfl⟩
  | zonc => simp only [ownerOf, ownZonc]; split <;> (try split) <;> exact ⟨rfl, rfl⟩
  | annw =>
    simp only [ownerOf, ownAnnw]
    split <;> (try split) <;> (try split) <;> (try split) <;> exact ⟨rfl, rfl⟩
  | annr => simp only [ownerOf, ownAnnr]; split <;> exact ⟨rfl, rfl⟩
  | annc => simp only [ownerOf, ownAnnc]; split <;> (try split) <;> exact ⟨rfl, rfl⟩
  | keyc => simp only [ownerOf, ownKeyc]; split <;> (try split) <;> exact ⟨rfl, rfl⟩
  | outc => simp only [ownerOf, ownOutc]; split <;> (try split) <;> (try split) <;> exact ⟨rfl, rfl⟩
  | monc => simp only [ownerOf, ownMonc]; split <;> (try split) <;> exact ⟨rfl, rfl⟩
  | monr =>
    simp only [ownerOf, ownMonr, State.clearMonFlags]
    split <;> (try split) <;> exact ⟨rfl, rfl⟩
  | recr => simp only [ownerOf, ownRecr]; split <;> exact ⟨rfl, rfl⟩
  | mntc => simp only [ownerOf, ownMntc]; split <;> exact ⟨rfl, rfl⟩
  | note => simp only [ownerOf, ownNote]; split <;> (try split) <;> exact ⟨rfl, rfl⟩
  | nmsk => simp only [ownerOf, ownNmsk]; split <;> (try split) <;> exact ⟨rfl, rfl⟩
  | rset => simp only [ownerOf, ownRset]; split <;> exact ⟨rfl, rfl⟩

/-! ### The records in every step -/

/-- R121, R130: every part of the model keeps the law of the records. -/
theorem State.recordsHold_keptByParts : KeptByParts State.recordsHold where
  congr h e := State.recordsHold_of_frame h (congrArg State.nextRecord e :) (congrArg State.keyer e :)
  cleared := State.recordsHold_cleared
  owner c f h := State.recordsHold_of_eq h (ownerOf_records c f _).1 (ownerOf_records c f _).2
  edge r h := State.recordsHold_of_frame h (by simp) (by simp)
  word r w h := State.recordsHold_of_frame h rfl rfl
  char r ch h := State.recordsHold_of_frame h rfl rfl
  watch edge h := by cases edge <;> exact State.recordsHold_of_frame h (by simp [State.watch]) (by simp [State.watch])
  ready c l h := State.recordsHold_of_frame h (by simp) (by simp)
  reach t h := State.recordsHold_of_frame h rfl rfl
  segment h := State.recordsHold_of_eq h (by simp) (State.segmentPoint_air _)
  epoch := State.recordsHold_localEpoch

/-- Settles O51: a composition computes the parity of its own fields, a load only marks the record in NEXT, and AIR takes a record from NEXT that has passed the test of its mark; nothing else writes a record. -/
theorem recordsKeepTheirParity : Obligations.RecordsKeepTheirParity :=
  fun _ _ => State.recordsHold_keptByParts.step

end Sys2Proof.Machine
end

section
/-! Proofs: the composition (O49): the channels and symbols of a record, its parity, and the epochs that compose. -/

namespace Sys2Proof.Machine

/-! ### Parity -/

/-- R14: a sum over two lists is the sum of both sums. -/
theorem oddOnes_append (xs ys : List Bool) : oddOnes (xs ++ ys) = (oddOnes xs ^^ oddOnes ys) := by
  induction xs with
  | nil => simp [oddOnes]
  | cons x xs ih =>
    simp only [oddOnes, List.cons_append, List.foldr_cons] at ih ⊢
    rw [ih, Bool.xor_assoc]

/-- R14: a group and its parity bit hold an even number of ones together. -/
theorem oddOnes_append_parity (xs : List Bool) : oddOnes (xs ++ [oddOnes xs]) = false := by
  rw [oddOnes_append]
  simp [oddOnes]

/-! ### Channels and symbols -/

theorem bitsLE_length (w n : Nat) : (bitsLE w n).length = w := by
  induction w generalizing n with
  | zero => rfl
  | succ w ih => simp [bitsLE, ih]

/-- R190: each channel has a place for each of the seconds 1 to 58. -/
theorem channels_length (f : CodeFields) (p : ParityBits) :
    (channelA f p).length = 58 ∧ (channelB f p).length = 58 := by
  simp [channelA, channelB, minuteGroup, hourGroup, dateGroup, offsetGroup, statusGroup, serviceGroup, bitsLE_length]

/-- R100: a minute has at least 59 seconds. -/
theorem le_minuteLength (slots : Vector (Option Slot) 8) (m : Nat) : 59 ≤ minuteLength slots m := by
  unfold minuteLength
  split
  · omega
  · split <;> omega

section Symbols

variable (f : CodeFields) (p : ParityBits)

/-- R122: one symbol for each second of a minute of at least 59 seconds. -/
theorem symbolList_length {n : Nat} (h : 59 ≤ n) : (symbolList f p n).length = n := by
  obtain ⟨ha, hb⟩ := channels_length f p
  simp only [symbolList, List.length_cons, List.length_append, List.length_zipWith, List.length_replicate, ha, hb]
  omega

/-- R122, R190: the seconds 1 to 58 carry the bits of their places. -/
theorem symbolList_place (n : Nat) {i : Nat} (h1 : 1 ≤ i) (h58 : i ≤ 58) :
    ∃ a b, (symbolList f p n)[i]? = some (.mark a b) ∧ (channelA f p)[i - 1]? = some a ∧
      (channelB f p)[i - 1]? = some b := by
  obtain ⟨ha, hb⟩ := channels_length f p
  obtain ⟨k, rfl⟩ := Nat.exists_eq_add_of_le' h1
  obtain ⟨a, hka⟩ : ∃ a, (channelA f p)[k]? = some a := ⟨_, List.getElem?_eq_getElem (by omega)⟩
  obtain ⟨b, hkb⟩ : ∃ b, (channelB f p)[k]? = some b := ⟨_, List.getElem?_eq_getElem (by omega)⟩
  rw [Nat.add_sub_cancel]
  refine ⟨a, b, ?_, hka, hkb⟩
  rw [symbolList, List.getElem?_cons_succ, List.getElem?_append_left (by rw [List.length_zipWith]; omega)]
  exact List.getElem?_zipWith_eq_some.2 ⟨a, b, hka, hkb, rfl⟩

/-- R122: any further second carries a MARK without windows. -/
theorem symbolList_further {n i : Nat} (h59 : 59 ≤ i) (hn : i < n) :
    (symbolList f p n)[i]? = some (.mark false false) := by
  obtain ⟨ha, hb⟩ := channels_length f p
  obtain ⟨k, rfl⟩ := Nat.exists_eq_add_of_le' h59
  have coded : (List.zipWith Symbol.mark (channelA f p) (channelB f p)).length = 58 := by
    rw [List.length_zipWith, ha, hb, Nat.min_self]
  rw [symbolList, show k + 59 = (k + 58) + 1 from rfl, List.getElem?_cons_succ,
    List.getElem?_append_right (by omega), coded, List.getElem?_replicate, if_pos (by omega)]

end Symbols

/-! ### The record composed -/

/-- R121: with the parity of its fields a record has even parity over each group and its bit. -/
theorem Record.parityHolds.even {r : Record} (h : r.parityHolds) :
    oddOnes (minuteGroup r.fields ++ [r.parity.p1]) = false ∧ oddOnes (hourGroup r.fields ++ [r.parity.p2]) = false ∧
    oddOnes (dateGroup r.fields ++ [r.parity.p3]) = false ∧ oddOnes (offsetGroup r.fields ++ [r.parity.p4]) = false ∧
    oddOnes (statusGroup r.fields ++ [r.parity.p5]) = false ∧ oddOnes (serviceGroup r.fields ++ [r.parity.p6]) = false := by
  rw [Record.parityHolds] at h
  rw [h]
  exact ⟨oddOnes_append_parity _, oddOnes_append_parity _, oddOnes_append_parity _, oddOnes_append_parity _,
    oddOnes_append_parity _, oddOnes_append_parity _⟩

/-- R115, R121, R122: r is composed at this label with this quality code, for the next minute as the slots give its length. -/
structure Record.composedFor (r : Record) (l : Label) (q : Nat) (slots : Vector (Option Slot) 8) : Prop where
  keyed : r.keyed = l.minute + 1
  unmarked : r.stale = false
  composedAt : r.composedAt = l
  quality : r.fields.quality = q
  length : r.length = minuteLength slots (l.minute + 1)
  parity : r.parityHolds
  symbols : r.symbols = symbolList r.fields r.parity r.length

/-- R97, R113: a composition leaves the slots as the table's transitions left them. -/
theorem State.compose_slots (s : State) (l : Label) (q : Nat) :
    (s.compose l q).slots = (s.tableAtComposition (l.minute + 1) (l.minute + 2) (some l)).slots := by
  simp [State.compose]

/-- R113: a composition leaves such a record in NEXT. -/
theorem State.compose_composed (s : State) (l : Label) (q : Nat) :
    ∃ r, (s.compose l q).nextRecord = some r ∧ r.composedFor l q (s.compose l q).slots :=
  ⟨_, s.compose_nextRecord l q, ⟨rfl, rfl, rfl, rfl, by rw [State.compose_slots]; rfl, rfl, rfl⟩⟩

/-! ### The notices of a composition -/

/-- R123: placing a record posts RECORD_DISCARD where one was in NEXT. -/
theorem State.place_notices (s : State) (r : Record) :
    (s.nextRecord = none → (s.place r).notices = s.notices) ∧
      (∀ old, s.nextRecord = some old →
        (s.place r).notices =
          s.notices.post (.recordDiscard .replaced old.keyed r.keyed old.stale) (some r.composedAt)) := by
  unfold State.place
  split <;> rename_i hr
  · exact ⟨fun _ => rfl, fun old h => by rw [hr] at h; cases h⟩
  · refine ⟨fun h => (by rw [hr] at h; cases h), fun old h => ?_⟩
    obtain rfl := Option.some.inj (hr.symm.trans h)
    rfl

/-- R110, R123: a composition posts the notices of the table, then those of the placing. -/
theorem State.compose_notices {s : State} {l : Label} {q : Nat} {m : NoticeList}
    (hm : m = (s.tableAtComposition (l.minute + 1) (l.minute + 2) (some l)).notices) :
    (s.nextRecord = none → (s.compose l q).notices = m) ∧
      (∀ old, s.nextRecord = some old →
        (s.compose l q).notices =
          m.post (.recordDiscard .replaced old.keyed (l.minute + 1) old.stale) (some l)) := by
  subst hm
  have placed := (s.tableAtComposition (l.minute + 1) (l.minute + 2) (some l)).place_notices
    ((s.tableAtComposition (l.minute + 1) (l.minute + 2) (some l)).newRecord l q)
  simp only [State.tableAtComposition_frame] at placed
  exact placed

/-! ### When the composer composes -/

/-- R112: at second 50 it composes with the quality code given. -/
theorem State.composition_eq {s : State} {l : Label} {q : Nat} (h : l.second = 50) (hq : s.qualityCode = some q) :
    s.composition (some l) = s.compose l q := by
  simp [State.composition, hq, h]

/-- R112: without a label, without a quality code and at another second it leaves everything. -/
theorem State.composition_none {s : State} {label : Option Label}
    (h : label = none ∨ s.qualityCode = none ∨ ∀ l, label = some l → l.second ≠ 50) : s.composition label = s := by
  cases label with
  | none => rfl
  | some l =>
    rcases h with h | h | h
    · cases h
    · simp [State.composition, h]
    · exact State.composition_of_ne (h l rfl)

/-- R82: ACQUIRE gives no quality code. -/
theorem State.qualityCode_acquire {s : State} (h : s.disc.state = .acquire) : s.qualityCode = none := by
  simp [State.qualityCode, h]

/-- R82: FREE gives 3 while the time is SET. -/
theorem State.qualityCode_free {s : State} {l : Label} (hl : s.time.label = some l) (h : s.disc.state = .free) :
    s.qualityCode = some 3 := by
  simp [State.qualityCode, TimeScale.isSet, hl, h]

/-- R131: but at a boundary only the composer touches NEXT. -/
theorem State.react_nextRecord_inMinute {c : EpochCtx} {l : Label} {x : Reaction} (s : State) (hl : c.label = some l)
    (h0 : l.second ≠ 0) (hx : x ≠ .composition) : (s.react c x).nextRecord = s.nextRecord := by
  by_cases hk : x = .keyer
  · subst hk
    simp [State.react, State.keyerEpoch, hl, h0]
  · exact s.react_nextRecord c hk hx

/-! ### The epoch at which no reference can change the state -/

/-- Every reference is OFF, and the discipline controller stands in d. -/
structure State.standsOff (s : State) (d : DiscState) : Prop where
  off : ∀ r, (s.ref r).state = .off
  state : s.disc.state = d

/-- R50, R78, R81: with every reference OFF no reaction to an epoch moves FREE or ACQUIRE, but the range end. -/
theorem State.standsOff.react {s : State} {d : DiscState} {c : EpochCtx} (x : Reaction) (h : s.standsOff d)
    (hd : d ≠ .holdover) (hend : c.rangeEnd = false) : (s.react c x).standsOff d := by
  have same : ∀ t : State, t = s → t.standsOff d := fun t ht => ht ▸ h
  have kept : (s.react c x).refs = s.refs → (s.react c x).disc.state = s.disc.state → (s.react c x).standsOff d :=
    fun hr hs => ⟨fun r => by rw [State.ref_congr hr]; exact h.off r, hs.trans h.state⟩
  cases x with
  | review r => exact same _ (if_pos (h.off r))
  | settings => exact kept (s.react_refs_selector c (by simp)).1 (congrArg Discipline.state s.discSettingsInForce_disc :)
  | holdover => exact same _ (State.holdoverTick_of_ne _ _ (by rw [h.state]; exact hd))
  | rangeEnd => exact same _ (if_neg (by simp [hend]))
  | _ =>
    exact kept (s.react_refs_selector c (by simp)).1
      (congrArg Discipline.state (s.react_disc c (by simp) (by simp) (by simp) (by simp)))

section Epoch

variable {s : State} {n sec : Nat}

/-- R20: with no load pending the epoch after a second below 58 delivers the next second, and its time step leaves the references, the records and the discipline state. -/
theorem State.atEpoch_plain (hp : s.time.pending = none) (hl : s.time.label = some { minute := n, second := sec })
    (hn : n ≤ lastMinute) (hsec : sec < 58) :
    s.nextCtx.label = some { minute := n, second := sec + 1 } ∧ s.nextCtx.rangeEnd = false ∧
      s.atEpoch.timeStep.state.nextRecord = s.nextRecord ∧
      ∀ d, (∀ r, (s.ref r).state = .off) → s.disc.state = d → s.atEpoch.timeStep.state.standsOff d := by
  have next : s.atEpoch.noLoad.nextLabel = some { minute := n, second := sec + 1 } := by
    have advanced : advance s.slots { minute := n, second := sec } = { minute := n, second := sec + 1 } := by
      unfold advance
      rw [if_neg (by simp; omega), if_neg (by simp; omega), if_neg (by simp; omega)]
    rw [show s.atEpoch.noLoad.nextLabel = s.nextLabel from s.atEpoch_nextLabel, State.nextLabel, hl, Option.bind_some,
      advanceInRange, advanced, if_pos hn]
  have step : s.atEpoch.timeStep = s.atEpoch.noLoad.plainAdvance := State.timeStep_plain (by simpa using hp)
  rw [State.nextCtx_label, State.nextCtx_rangeEnd, step]
  refine ⟨(State.advanceLabel_label _).trans next, ?_, ?_, fun d hoff hd => ⟨fun r => ?_, ?_⟩⟩
  · simp [State.plainAdvance, next]
  · simp [State.plainAdvance, State.noLoad]
  · rw [State.ref_congr (s := s) (by simp [State.plainAdvance, State.noLoad])]
    exact hoff r
  · simpa [State.plainAdvance, State.noLoad, State.atEpoch_disc] using hd

/-- R112, R131: an epoch that delivers another second than 0 and 50 leaves NEXT. -/
theorem State.nextEpoch_nextRecord (h : s.resetHeld = false) (hp : s.time.pending = none)
    (hl : s.time.label = some { minute := n, second := sec }) (hn : n ≤ lastMinute) (hsec : sec < 58) (h49 : sec ≠ 49) :
    s.nextEpoch.nextRecord = s.nextRecord := by
  obtain ⟨label, -, record, -⟩ := State.atEpoch_plain hp hl hn hsec
  rw [State.nextEpoch_eq h, State.reactions_nextRecord label (by simp) (by simpa using h49), record]

/-- R112: in ACQUIRE the epoch after second 49 leaves NEXT where no reference can change the state. -/
theorem State.nextEpoch_acquire (h : s.resetHeld = false) (hp : s.time.pending = none)
    (hl : s.time.label = some { minute := n, second := 49 }) (hn : n ≤ lastMinute) (hoff : ∀ r, (s.ref r).state = .off)
    (hs : s.disc.state = .acquire) : s.nextEpoch.nextRecord = s.nextRecord := by
  obtain ⟨label, rangeEnd, record, stands⟩ := State.atEpoch_plain hp hl hn (by omega)
  rw [State.nextEpoch_eq h, ← record]
  refine (List.foldlRecOn s.nextOrder _
    (motive := fun t : State => t.standsOff .acquire ∧ t.nextRecord = s.atEpoch.timeStep.state.nextRecord)
    ⟨stands _ hoff hs, rfl⟩ (fun t ⟨ht, hr⟩ x _ => ⟨ht.react x (by simp) rangeEnd, ?_⟩)).2
  rw [← hr]
  by_cases hcomp : x = .composition
  · subst hcomp
    simp only [State.react]
    rw [State.composition_none (Or.inr (Or.inl (State.qualityCode_acquire ht.state)))]
  · exact t.react_nextRecord_inMinute label (by simp) hcomp

/-- R112, R115: in FREE the epoch after second 49 composes, with quality code 3. -/
theorem State.nextEpoch_free (h : s.resetHeld = false) (hp : s.time.pending = none)
    (hl : s.time.label = some { minute := n, second := 49 }) (hn : n ≤ lastMinute) (hoff : ∀ r, (s.ref r).state = .off)
    (hs : s.disc.state = .free) :
    ∃ r slots, s.nextEpoch.nextRecord = some r ∧ r.composedFor { minute := n, second := 50 } 3 slots := by
  obtain ⟨label, rangeEnd, -, stands⟩ := State.atEpoch_plain hp hl hn (by omega)
  have ready : ∀ (t : State) x, (t.standsOff .free ∧ t.time.label = s.nextCtx.label) →
      (t.react s.nextCtx x).standsOff .free ∧ (t.react s.nextCtx x).time.label = s.nextCtx.label := fun t x ht =>
    ⟨ht.1.react x (by simp) rangeEnd, (t.react_label_pending _ x).1.trans ht.2⟩
  have composes : ∀ t : State, (t.standsOff .free ∧ t.time.label = s.nextCtx.label) →
      ∃ r slots, (t.react s.nextCtx .composition).nextRecord = some r ∧
        r.composedFor { minute := n, second := 50 } 3 slots := by
    intro t ⟨ht, hlabel⟩
    rw [label] at hlabel
    obtain ⟨r, hr, hcomposed⟩ := t.compose_composed { minute := n, second := 50 } 3
    simp only [State.react, label]
    rw [State.composition_eq rfl (State.qualityCode_free hlabel ht.state)]
    exact ⟨r, _, hr, hcomposed⟩
  rw [State.nextEpoch_eq h]
  refine (foldl_reaches (fun t : State => t.standsOff .free ∧ t.time.label = s.nextCtx.label)
    (fun t => (t.standsOff .free ∧ t.time.label = s.nextCtx.label) ∧
      ∃ r slots, t.nextRecord = some r ∧ r.composedFor { minute := n, second := 50 } 3 slots)
    (s.mem_nextOrder .composition) (fun t x _ => ready t x) (fun t ht => ⟨ready t _ ht, composes t ht⟩)
    (fun t x _ ht => ⟨ready t x ht.1, ?_⟩) ⟨stands _ hoff hs, rfl⟩).2
  by_cases hcomp : x = .composition
  · subst hcomp
    exact composes t ht.1
  · rw [t.react_nextRecord_inMinute label (by simp) hcomp]
    exact ht.2

end Epoch

/-- Settles O49: the record is composed from the table behind its transitions; the composer composes exactly with a quality code at second 50, and in every order of an epoch's reactions the discipline state that gives the code stands where no reference can change it. -/
theorem compositionPlacesARecord : Obligations.CompositionPlacesARecord := by
  refine ⟨fun s n q => ?_, fun s t l q m ht hm => ?_, fun s =>
    ⟨fun l q h50 hq => State.composition_eq h50 hq, fun label => State.composition_none,
      fun n sec h hp hl hn => ⟨fun hsec h49 => ?_, fun h49 hoff => ?_⟩⟩⟩
  · obtain ⟨r, hr, composed⟩ := s.compose_composed { minute := n, second := 50 } q
    have length : 59 ≤ r.length := by rw [composed.length]; exact le_minuteLength _ _
    refine ⟨r, hr, composed.keyed, composed.unmarked, composed.composedAt, composed.quality, composed.length, ?_⟩
    rw [composed.symbols]
    exact ⟨symbolList_length _ _ length, rfl, fun i => symbolList_further _ _, fun i => symbolList_place _ _ _,
      composed.parity.even⟩
  · subst ht
    obtain ⟨kept, replaced⟩ := State.compose_notices (q := q) hm
    exact ⟨kept, replaced, by simp, by simp, by simp⟩
  · exact ⟨s.nextEpoch, rfl, State.nextEpoch_nextRecord h hp hl hn hsec h49⟩
  · subst h49
    refine ⟨fun hs => ⟨s.nextEpoch, rfl, State.nextEpoch_acquire h hp hl hn hoff hs⟩, fun hs => ?_⟩
    obtain ⟨r, slots, hr, composed⟩ := State.nextEpoch_free h hp hl hn hoff hs
    exact ⟨s.nextEpoch, r, rfl, hr, composed.keyed, composed.composedAt, composed.unmarked, composed.quality⟩

end Sys2Proof.Machine
end

section
/-! Proofs: the characters of the UART lines (O11): what a receiver that is fed a line's levels does in the waits between its samples, in a bit time, in a character and in the tick after it. -/

namespace Sys2Proof.Machine

/-! ### A fed receiver -/

/-- R195: levels fed one list after the other are fed as one. -/
theorem Receiver.feed_append (b : Nat) (x : Receiver) (ls ms : List Level) :
    x.feed b (ls ++ ms) =
      (((x.feed b ls).1.feed b ms).1, (x.feed b ls).2 ++ ((x.feed b ls).1.feed b ms).2) := by
  induction ls generalizing x with
  | nil => rfl
  | cons l ls ih => simp [Receiver.feed, ih]

/-- R195: a part of the levels that gives no character only moves the receiver on. -/
theorem Receiver.feed_append_silent {b : Nat} {x y : Receiver} {ls : List Level} (h : x.feed b ls = (y, []))
    (ms : List Level) : x.feed b (ls ++ ms) = y.feed b ms := by
  simp [Receiver.feed_append, h]

/-- R195: a level that gives no character only moves the receiver on. -/
theorem Receiver.feed_cons_silent {b : Nat} {x y : Receiver} {l : Level} (h : x.sample b l = (y, none))
    (ls : List Level) : x.feed b (l :: ls) = y.feed b ls := by
  simp [Receiver.feed, h]

/-- R195: an idle receiver stays idle, however long its line stays high. -/
theorem Receiver.feed_idle (b n : Nat) : Receiver.reset.feed b (List.replicate n .high) = (Receiver.reset, []) := by
  induction n with
  | zero => rfl
  | succ n ih => rw [List.replicate_succ, Receiver.feed_cons_silent (Receiver.sample_idle b), ih]

/-! ### A receiver in a character -/

/-- A receiver within a character: the level sampled last, the ticks since the start bit's falling edge, and the bits sampled. -/
def Receiver.within (l : Level) (ticks : Nat) (bits : List Bool) : Receiver :=
  { level := l, reception := some { ticks := ticks, bits := bits } }

/-- R195: the falling edge on an idle line begins a character. -/
theorem Receiver.sample_edge (b : Nat) : Receiver.reset.sample b .low = (Receiver.within .low 0 [], none) := rfl

/-- R195: a bit whose middle this tick is takes the level that the tick samples. -/
theorem Receiver.sample_middle {b ticks : Nat} {bits : List Bool} (m l : Level) (hopen : bits.length < 9)
    (hmid : ticks + 1 = (bits.length + 1) * b + b / 2) :
    (Receiver.within m ticks bits).sample b l =
      (Receiver.within l (ticks + 1) (bits ++ [decide (l = .high)]), none) := by
  simp [Receiver.within, Receiver.sample, hopen, Reception.sampled, Reception.nextSample, hmid]

/-- R195: away from the middle of the next bit a tick is only counted, before the stop bit's sample on any level, and after it while the level stays and the stop bit lasts. -/
theorem Receiver.sample_between {b ticks : Nat} {bits : List Bool} {m l : Level}
    (hmid : ticks + 1 ≠ (bits.length + 1) * b + b / 2) (hlast : bits.length < 9 ∨ m = l ∧ ticks + 1 < 10 * b) :
    (Receiver.within m ticks bits).sample b l = (Receiver.within l (ticks + 1) bits, none) := by
  by_cases hopen : bits.length < 9
  · simp [Receiver.within, Receiver.sample, hopen, Reception.sampled, Reception.nextSample, hmid]
  · obtain ⟨rfl, hticks⟩ := hlast.resolve_left hopen
    have steady : Receiver.falls ⟨m, some ⟨ticks, bits⟩⟩ m = false := by cases m <;> rfl
    simp [Receiver.within, Receiver.sample, hopen, steady, Nat.not_le.mpr hticks]

/-- R195: a steady level up to the tick before the next bit's middle is only waited through; after the stop bit's sample the wait is within the stop bit. -/
theorem Receiver.feed_between {b : Nat} {bits : List Bool} {l : Level} (n : Nat) {ticks : Nat} {m : Level}
    (hmid : ticks + n < (bits.length + 1) * b + b / 2) (hlast : bits.length < 9 ∨ m = l ∧ ticks + n < 10 * b) :
    (Receiver.within m ticks bits).feed b (List.replicate n l) =
      (Receiver.within (if n = 0 then m else l) (ticks + n) bits, []) := by
  induction n generalizing ticks m with
  | zero => rfl
  | succ n ih =>
    have first := Receiver.sample_between (b := b) (ticks := ticks) (bits := bits) (m := m) (l := l) (by omega)
      (hlast.imp id fun h => ⟨h.1, by omega⟩)
    rw [List.replicate_succ, Receiver.feed_cons_silent first, ih (by omega) (hlast.imp id fun h => ⟨rfl, by omega⟩)]
    simp [Nat.add_assoc, Nat.add_comm 1]

/-- R195: one bit time on one level adds that level's bit, from the last tick of the bit before to the last tick of this one. -/
theorem Receiver.feed_bit {b ticks : Nat} {bits : List Bool} (m l : Level) (hb : 0 < b) (hopen : bits.length < 9)
    (hticks : ticks + 1 = (bits.length + 1) * b) :
    (Receiver.within m ticks bits).feed b (List.replicate b l) =
      (Receiver.within l (ticks + b) (bits ++ [decide (l = .high)]), []) := by
  have parts : List.replicate b l = List.replicate (b / 2) l ++ l :: List.replicate (b - b / 2 - 1) l := by
    rw [← List.replicate_succ, List.replicate_append_replicate]
    congr 1
    omega
  have next : (bits.length + 1 + 1) * b = (bits.length + 1) * b + b := Nat.succ_mul _ _
  have ten : (bits.length + 1 + 1) * b ≤ 10 * b := Nat.mul_le_mul_right b (by omega)
  rw [parts, Receiver.feed_append_silent (Receiver.feed_between (b / 2) (by omega) (Or.inl hopen)),
    Receiver.feed_cons_silent (Receiver.sample_middle _ l hopen (by omega)),
    Receiver.feed_between _ (by simp only [List.length_append, List.length_singleton]; omega)
      (Or.inr ⟨rfl, by omega⟩)]
  simp only [ite_self]
  congr 2
  omega

/-- R195: the bit times of several levels add their bits in order. -/
theorem Receiver.feed_bits {b : Nat} (hb : 0 < b) (ls : List Level) {ticks : Nat} {bits : List Bool} (m : Level)
    (hopen : bits.length + ls.length ≤ 9) (hticks : ticks + 1 = (bits.length + 1) * b) :
    (Receiver.within m ticks bits).feed b (ls.flatMap (List.replicate b)) =
      (Receiver.within (ls.getLastD m) (ticks + ls.length * b) (bits ++ ls.map (fun l => decide (l = .high))), []) := by
  induction ls generalizing ticks bits m with
  | nil => simp [Receiver.feed]
  | cons l ls ih =>
    simp only [List.length_cons] at hopen
    have next : (bits.length + 1 + 1) * b = (bits.length + 1) * b + b := Nat.succ_mul _ _
    rw [List.flatMap_cons, Receiver.feed_append_silent (Receiver.feed_bit m l hb (by omega) hticks),
      ih l (by simp; omega) (by simp; omega)]
    rw [List.getLastD_cons, List.map_cons, List.append_assoc, List.singleton_append, List.length_cons, Nat.succ_mul,
      Nat.add_assoc, Nat.add_comm b]

/-- R195: the start bit's levels take an idle receiver to its last tick, with no bit sampled. -/
theorem Receiver.feed_startBit {b : Nat} (hb : 0 < b) :
    Receiver.reset.feed b (List.replicate b .low) = (Receiver.within .low (b - 1) [], []) := by
  obtain ⟨n, rfl⟩ := Nat.exists_eq_succ_of_ne_zero (Nat.ne_of_gt hb)
  rw [List.replicate_succ, Receiver.feed_cons_silent (Receiver.sample_edge _),
    Receiver.feed_between n (by simp; omega) (Or.inl (by simp))]
  simp

/-! ### A character's frame -/

/-- R195: the levels of a character's eight data bits and its stop bit. -/
def bitLevels (c : Char) (framingError : Bool) : List Level :=
  (List.range 8).map (fun i => if c.toNat.testBit i then .high else .low) ++ [if framingError then .low else .high]

/-- R195: a frame is a low start bit and then the data bits and the stop bit, each for a bit time. -/
theorem frameLevels_eq (b : Nat) (c : Char) (e : Bool) :
    frameLevels b c e = List.replicate b .low ++ (bitLevels c e).flatMap (List.replicate b) := by
  simp [frameLevels, bitLevels, List.range_succ_eq_map, charBit]

/-- Levels that last a bit time each take as many bit times as they are. -/
theorem length_flatMap_replicate {α : Type} (b : Nat) (f : α → Level) (xs : List α) :
    (xs.flatMap fun x => List.replicate b (f x)).length = xs.length * b := by
  induction xs with
  | nil => simp
  | cons x xs ih =>
    rw [List.flatMap_cons, List.length_append, List.length_replicate, ih, List.length_cons, Nat.succ_mul, Nat.add_comm]

/-- R195: a character occupies ten bit times. -/
theorem frameLevels_length (b : Nat) (c : Char) (e : Bool) : (frameLevels b c e).length = 10 * b := by
  rw [frameLevels, List.length_append, length_flatMap_replicate, List.length_range, List.length_replicate]
  omega

/-- R195: the levels of the bits, read back: the character's eight low bits, and whether the stop bit is high. -/
theorem bitLevels_bits (c : Char) (e : Bool) :
    (bitLevels c e).map (fun l => decide (l = .high)) = (List.range 8).map c.toNat.testBit ++ [!e] := by
  cases e <;> simp [bitLevels]

/-- The lowest n bits of a number have its value modulo 2 ^ n. -/
theorem valueLE_testBits (n x : Nat) : valueLE ((List.range n).map x.testBit) = x % 2 ^ n := by
  induction n generalizing x with
  | zero => simp [valueLE, Nat.mod_one]
  | succ n ih =>
    have tail : (List.range n).map (x.testBit ∘ Nat.succ) = (List.range n).map (x / 2).testBit := by
      simp [Function.comp_def, Nat.testBit_succ]
    rw [List.range_succ_eq_map, List.map_cons, List.map_map, tail, valueLE, ih, Nat.pow_succ', Nat.mod_mul,
      Nat.testBit_zero]
    rcases Nat.mod_two_eq_zero_or_one x with h | h <;> simp [h]

/-- R195: eight data bits and a stop bit are the character that they are the bits of, in error where the stop bit is low. -/
theorem Reception.char_of_bits {c : Char} (hc : c.toNat < 256) (e : Bool) (ticks : Nat) :
    Reception.char { ticks := ticks, bits := (List.range 8).map c.toNat.testBit ++ [!e] } =
      { code := c, framingError := e } := by
  have data : ((List.range 8).map c.toNat.testBit ++ [!e]).take 8 = (List.range 8).map c.toNat.testBit :=
    List.take_left' (by simp)
  have value : valueLE ((List.range 8).map c.toNat.testBit) = c.toNat :=
    (valueLE_testBits 8 c.toNat).trans (Nat.mod_eq_of_lt hc)
  simp [Reception.char, data, value, Char.ofNat_toNat]

/-- R195: an idle receiver fed a character's levels gives nothing, and holds the character's bits at the last tick of its stop bit. -/
theorem Receiver.feed_frame {b : Nat} (hb : 0 < b) (c : Char) (e : Bool) :
    Receiver.reset.feed b (frameLevels b c e) =
      (Receiver.within (if e then .low else .high) (b - 1 + 9 * b) ((List.range 8).map c.toNat.testBit ++ [!e]), []) := by
  have nine : (bitLevels c e).length = 9 := by simp [bitLevels]
  have stop : (bitLevels c e).getLastD .low = if e then .low else .high := by simp [bitLevels]
  rw [frameLevels_eq, Receiver.feed_append_silent (Receiver.feed_startBit hb),
    Receiver.feed_bits hb _ _ (by simp [nine]) (by simp; omega), nine, stop, bitLevels_bits, List.nil_append]

/-- R195: the tick after a stop bit's last gives the character; the receiver is idle then, or in the next character where this tick samples a falling edge. -/
theorem Receiver.sample_stopEnd {b ticks : Nat} {bits : List Bool} (m l : Level) (hfull : 9 ≤ bits.length)
    (hend : 10 * b ≤ ticks + 1) :
    (Receiver.within m ticks bits).sample b l =
      (if m = .high ∧ l = .low then Receiver.within l 0 [] else { level := l, reception := none },
        some (Reception.char { ticks := ticks, bits := bits })) := by
  have falls : Receiver.falls ⟨m, some ⟨ticks, bits⟩⟩ l = decide (m = .high ∧ l = .low) := (Bool.decide_and _ _).symm
  simp only [Receiver.within, Receiver.sample, Nat.not_lt.mpr hfull, falls, hend, Reception.begun, decide_eq_true_eq,
    if_false, if_true]
  split <;> rfl

/-- R195: the tick after a character's frame gives the character; where it samples a falling edge behind a high stop bit, the next character begins. -/
theorem Receiver.sample_afterFrame {b : Nat} (hb : 0 < b) {c : Char} (hc : c.toNat < 256) (e : Bool) (l : Level) :
    (Receiver.reset.feed b (frameLevels b c e)).1.sample b l =
      (if e = false ∧ l = .low then Receiver.within l 0 [] else { level := l, reception := none },
        some { code := c, framingError := e }) := by
  rw [Receiver.feed_frame hb, Receiver.sample_stopEnd _ _ (by simp) (by omega), Reception.char_of_bits hc]
  cases e <;> simp

/-! ### The obligation -/

/-- R195: every speed's bit time has a tick. -/
theorem LineSpeed.bitTicks_pos (v : LineSpeed) : 0 < v.bitTicks := by
  cases v <;> decide

/-- Settles O11: the start bit, then bit by bit the data and the stop bit take an idle receiver to the stop bit's last tick with the character's bits; the next tick gives it and looks for the next falling edge. -/
theorem lineCharacterIsReceived : Obligations.LineCharacterIsReceived := by
  refine ⟨⟨rfl, rfl, rfl, rfl⟩, fun speed c e hc => ?_⟩
  have fed := Receiver.feed_frame speed.bitTicks_pos c e
  have after := Receiver.sample_afterFrame speed.bitTicks_pos hc e
  refine ⟨frameLevels_length _ _ _, congrArg Prod.snd fed, fun l => congrArg Prod.snd (after l),
    (congrArg Prod.fst (after .high)).trans (if_neg (by simp)), ?_, ?_, fun n => ?_⟩
  · rintro rfl
    exact congrArg Prod.fst (after .low)
  · rintro rfl
    exact congrArg Prod.fst (after .low)
  · exact Prod.ext_iff.mp (Receiver.feed_idle _ n)

end Sys2Proof.Machine
end

section
/-! Proofs: the queue of waiting commands (O1): a step takes the command in front. -/

namespace Sys2Proof.Machine

/-- Settles O1: the front command of the queue that is put in is taken, and the rest that it leaves replaces that queue. -/
theorem stepTakesTheFrontCommand : Obligations.StepTakesTheFrontCommand := by
  intro c rest s
  have front : ({ s with pending := c :: rest } : State).pending = c :: rest := rfl
  exact step_of_cons front

end Sys2Proof.Machine
end
